-- ==== Sys2Proof/Word.lean ====
section
/-!
DEFINITION. The values LAMPCORE's registers and ports hold (spec/10_state.md, spec/30_encoding.md) and the stimuli applied to it
(R52). The three enumerated registers are five-valued types, as R50 asks, so that a reserved code cannot be written down.
-/

namespace Sys2Proof

/-- A brightness level, 0 to 255, unsigned (R18). -/
abbrev Level := BitVec 8

/-- A PWM target or compare value (R25, R26, R29). -/
abbrev Target := BitVec 16

/-- The pressed mask: bit `i` is 1 exactly when button `i` reads pressed (R10, R45). -/
abbrev Pressed := BitVec 5

/-- The values of `state` (R14, R42). -/
inductive FsmState where
  | idle
  | debouncing
  | buttonPressed
  | buttonHeld
  | buttonReleased
  deriving DecidableEq, Repr, Inhabited

/-- The values of `button`, the last recognised button action (R15, R43). -/
inductive ButtonAction where
  | bNone
  | bWarmOnly
  | bCoolOnly
  | bToggleBoth
  | bAdjust
  deriving DecidableEq, Repr, Inhabited

/-- The values of `channel`, the set of active logical channels (R17, R44). -/
inductive Channel where
  | chNone
  | chWarm
  | chCool
  | chBoth
  deriving DecidableEq, Repr, Inhabited

/-- The values of `useq`, the update sequencer's step (R23, R46). -/
inductive Useq where
  | uIdle
  | uClr
  | uWra
  | uWrb
  | uSet
  deriving DecidableEq, Repr, Inhabited

/-- The two lookup-table memories (R29). -/
inductive Rom where
  | lutA
  | lutB
  deriving DecidableEq, Repr

/-- The eight dispatch formats (R47). -/
inductive Format where
  | E | S | P | H | A | U | V | B
  deriving DecidableEq, Repr

/-- One stimulus of a trace (R52). The first four are the abstract ones, one step of one agent of R4 each. `edge v` is one
rising edge of `clk` with the input vector `v` = `{rst, tick, pwm_ovf, btn_n[4:0]}`. -/
inductive Stimulus where
  /-- `RESET`: one reset step. -/
  | reset
  /-- `TICK p`: one BSM tick with pressed mask `p`. -/
  | tick (p : Pressed)
  /-- `UOP`: the UPD agent performs the micro-operation `useq` selects. -/
  | uop
  /-- `OVF`: one overflow event. -/
  | ovf
  /-- One clock edge with its stimulus byte. -/
  | edge (v : BitVec 8)
  deriving DecidableEq, Repr, Inhabited

/-- The five fields of the shared settings record `LampSettings` (R13). -/
structure LampSettings where
  state    : FsmState
  button   : ButtonAction
  power_on : Bool
  channel  : Channel
  level    : Level
  deriving DecidableEq, Repr

end Sys2Proof
end

