-- ==== Sys2Proof/Syntax.lean ====
section
/-!
DEFINITION. The operations of LAMPCORE, which take the place of instructions: one constructor per row of spec/opcode_table.json, in
the table's order (R49). Only BSET has operands in its dispatch word; the others read registers and the pressed mask.
-/

namespace Sys2Proof

/-- The 31 operations (R49). The comment on each line names its format (R47) and its rule. -/
inductive Instr where
  | reset                    -- E, R99
  | tIdle                    -- S, R55
  | tDebounce                -- S, R56
  | tPressed                 -- S, R57
  | tHeld                    -- S, R63
  | tReleased                -- S, R66
  | btn0                     -- P, R58
  | btn1                     -- P, R59
  | btn2                     -- P, R60
  | btn3                     -- P, R61
  | btn4                     -- P, R62
  | heldRelease              -- H, R63
  | repInc                   -- H, R64
  | repDec                   -- H, R65
  | actToggleOn              -- A, R70
  | actToggleOff             -- A, R71
  | actCool                  -- A, R72
  | actWarm                  -- A, R73
  | actAdjBoth               -- A, R74
  | actAdjCool               -- A, R75
  | actAdjWarm               -- A, R76
  | actAdjNone               -- A, R77
  | actNone                  -- A, R78
  | bset (la lb : Level)     -- B, R79: la warm / channel A, lb cool / channel B
  | uIdle                    -- U, R88
  | uClr                     -- U, R81
  | uWra                     -- U, R82
  | uWrb                     -- U, R83
  | uSet                     -- U, R84
  | commit                   -- V, R85
  | commitNop                -- V, R85
  deriving DecidableEq, Repr

end Sys2Proof
end

