-- ==== Sys2Proof/WellFormed.lean ====
section
/-!
DEFINITION. What is well formed: dispatch words (their width, R47, R51, and the reserved codes of R50) and operations. Every operation
of the syntax is well formed, because its only operands are two 8-bit levels and "every 8-bit value of `level` is legal" (R50).
-/

namespace Sys2Proof

/-- The width of a format's dispatch word, in bits (R47). -/
def Format.width : Format → Nat
  | .E => 3
  | .S => 3
  | .P => 5
  | .H => 5
  | .A => 6
  | .U => 3
  | .V => 2
  | .B => 16

/-- The word fits its format's one fixed width (R51). -/
def Format.fits (f : Format) (w : Nat) : Bool := decide (w < 2 ^ f.width)

/-- A 3-bit code of `state`, `button` or `useq` that is not reserved (R50). -/
def codeLegal (c : Nat) : Bool := decide (c < 5)

/-- The enumerated field of a format's word holds no reserved code: `state` in S, `useq` in U, the low three bits `button` in A.
The other formats have no enumerated field (R50). -/
def Format.codesLegal (f : Format) (w : Nat) : Bool :=
  match f with
  | .S => codeLegal w
  | .U => codeLegal w
  | .A => codeLegal (w % 8)
  | .E => true
  | .P => true
  | .H => true
  | .V => true
  | .B => true

/-- A well-formed dispatch word of a format. -/
def Format.wordWellFormed (f : Format) (w : Nat) : Bool := f.fits w && f.codesLegal w

/-- Well-formedness of an operation: there is nothing to check, every pair of 8-bit levels being a legal operand of BSET (R79). -/
def Instr.wellFormed : Instr → Bool
  | .reset => true
  | .tIdle => true
  | .tDebounce => true
  | .tPressed => true
  | .tHeld => true
  | .tReleased => true
  | .btn0 => true
  | .btn1 => true
  | .btn2 => true
  | .btn3 => true
  | .btn4 => true
  | .heldRelease => true
  | .repInc => true
  | .repDec => true
  | .actToggleOn => true
  | .actToggleOff => true
  | .actCool => true
  | .actWarm => true
  | .actAdjBoth => true
  | .actAdjCool => true
  | .actAdjWarm => true
  | .actAdjNone => true
  | .actNone => true
  | .bset _ _ => true
  | .uIdle => true
  | .uClr => true
  | .uWra => true
  | .uWrb => true
  | .uSet => true
  | .commit => true
  | .commitNop => true

/-- Why a decoder refuses a word. -/
inductive Reject where
  /-- The word has more bits than its format (R51). -/
  | tooWide
  /-- The word's enumerated field holds a reserved code (R50). -/
  | reservedCode
  deriving DecidableEq, Repr

end Sys2Proof
end

