-- ==== Sys2Proof/Decode.lean ====
section
/-!
DEFINITION. The codes of the enumerated registers (R42 to R46), the dispatch table (R47, spec/opcode_table.json), the decoder, total on
every format and number, the encoder, and the stimulus bytes (R52). An operation is selected when `(word & mask) = match` for its row.
Format P selects every matching row, in table order; every other format selects at most one.
-/

namespace Sys2Proof

/-- Codes of `state` (R42). -/
def FsmState.code : FsmState → Nat
  | .idle => 0
  | .debouncing => 1
  | .buttonPressed => 2
  | .buttonHeld => 3
  | .buttonReleased => 4

/-- Codes of `button` (R43). -/
def ButtonAction.code : ButtonAction → Nat
  | .bNone => 0
  | .bWarmOnly => 1
  | .bCoolOnly => 2
  | .bToggleBoth => 3
  | .bAdjust => 4

/-- Codes of `channel`: bit 0 warm, bit 1 cool (R44). -/
def Channel.code : Channel → Nat
  | .chNone => 0
  | .chWarm => 1
  | .chCool => 2
  | .chBoth => 3

/-- Codes of `useq`, in the order of the protocol (R46). -/
def Useq.code : Useq → Nat
  | .uIdle => 0
  | .uClr => 1
  | .uWra => 2
  | .uWrb => 3
  | .uSet => 4

/-- The value of `state` with a code, none for a reserved one (R42, R50). -/
def FsmState.ofCode : Nat → Option FsmState
  | 0 => some .idle
  | 1 => some .debouncing
  | 2 => some .buttonPressed
  | 3 => some .buttonHeld
  | 4 => some .buttonReleased
  | _ => none

/-- The value of `button` with a code, none for a reserved one (R43, R50). -/
def ButtonAction.ofCode : Nat → Option ButtonAction
  | 0 => some .bNone
  | 1 => some .bWarmOnly
  | 2 => some .bCoolOnly
  | 3 => some .bToggleBoth
  | 4 => some .bAdjust
  | _ => none

/-- The value of `channel` with a code; all four codes are used (R44). -/
def Channel.ofCode : Nat → Option Channel
  | 0 => some .chNone
  | 1 => some .chWarm
  | 2 => some .chCool
  | 3 => some .chBoth
  | _ => none

/-- The value of `useq` with a code, none for a reserved one (R46, R50). -/
def Useq.ofCode : Nat → Option Useq
  | 0 => some .uIdle
  | 1 => some .uClr
  | 2 => some .uWra
  | 3 => some .uWrb
  | 4 => some .uSet
  | _ => none

/-- Format A's word `{power_on, channel[1:0], button[2:0]}` (R47). -/
def wordA (power_on : Bool) (channel : Channel) (button : ButtonAction) : Nat :=
  power_on.toNat * 32 + channel.code * 8 + button.code

/-- Format V's word `{pwm_ovf, sync_en}` (R47). -/
def wordV (pwm_ovf sync_en : Bool) : Nat := pwm_ovf.toNat * 2 + sync_en.toNat

/-- Format E's word `{rst, tick, pwm_ovf}` (R47). -/
def wordE (rst tick pwm_ovf : Bool) : Nat := rst.toNat * 4 + tick.toNat * 2 + pwm_ovf.toNat

/-- The format of an operation's row (spec/opcode_table.json). -/
def Instr.format : Instr → Format
  | .reset => .E
  | .tIdle => .S
  | .tDebounce => .S
  | .tPressed => .S
  | .tHeld => .S
  | .tReleased => .S
  | .btn0 => .P
  | .btn1 => .P
  | .btn2 => .P
  | .btn3 => .P
  | .btn4 => .P
  | .heldRelease => .H
  | .repInc => .H
  | .repDec => .H
  | .actToggleOn => .A
  | .actToggleOff => .A
  | .actCool => .A
  | .actWarm => .A
  | .actAdjBoth => .A
  | .actAdjCool => .A
  | .actAdjWarm => .A
  | .actAdjNone => .A
  | .actNone => .A
  | .bset _ _ => .B
  | .uIdle => .U
  | .uClr => .U
  | .uWra => .U
  | .uWrb => .U
  | .uSet => .U
  | .commit => .V
  | .commitNop => .V

/-- The `mask` of an operation's row. BSET's row has mask 0 in the table (any word is a BSET operand); for one BSET with its
operands given, every bit of the word is an operand bit and counts. -/
def Instr.mask : Instr → Nat
  | .reset => 0x4
  | .tIdle => 0x7
  | .tDebounce => 0x7
  | .tPressed => 0x7
  | .tHeld => 0x7
  | .tReleased => 0x7
  | .btn0 => 0x01
  | .btn1 => 0x02
  | .btn2 => 0x04
  | .btn3 => 0x08
  | .btn4 => 0x10
  | .heldRelease => 0x1F
  | .repInc => 0x08
  | .repDec => 0x18
  | .actToggleOn => 0x27
  | .actToggleOff => 0x27
  | .actCool => 0x07
  | .actWarm => 0x07
  | .actAdjBoth => 0x1F
  | .actAdjCool => 0x1F
  | .actAdjWarm => 0x1F
  | .actAdjNone => 0x1F
  | .actNone => 0x07
  | .bset _ _ => 0xFFFF
  | .uIdle => 0x7
  | .uClr => 0x7
  | .uWra => 0x7
  | .uWrb => 0x7
  | .uSet => 0x7
  | .commit => 0x3
  | .commitNop => 0x3

/-- The `match` of an operation's row; for BSET the word `{lb, la}` of its operands (R47, format B). -/
def Instr.pattern : Instr → Nat
  | .reset => 0x4
  | .tIdle => 0x0
  | .tDebounce => 0x1
  | .tPressed => 0x2
  | .tHeld => 0x3
  | .tReleased => 0x4
  | .btn0 => 0x01
  | .btn1 => 0x02
  | .btn2 => 0x04
  | .btn3 => 0x08
  | .btn4 => 0x10
  | .heldRelease => 0x00
  | .repInc => 0x08
  | .repDec => 0x10
  | .actToggleOn => 0x23
  | .actToggleOff => 0x03
  | .actCool => 0x02
  | .actWarm => 0x01
  | .actAdjBoth => 0x1C
  | .actAdjCool => 0x14
  | .actAdjWarm => 0x0C
  | .actAdjNone => 0x04
  | .actNone => 0x00
  | .bset la lb => lb.toNat * 256 + la.toNat
  | .uIdle => 0x0
  | .uClr => 0x1
  | .uWra => 0x2
  | .uWrb => 0x3
  | .uSet => 0x4
  | .commit => 0x3
  | .commitNop => 0x2

/-- The rows of a format, in table order; for format B the one BSET whose operands the word gives. -/
def rowsOf (f : Format) (w : Nat) : List Instr :=
  match f with
  | .E => [.reset]
  | .S => [.tIdle, .tDebounce, .tPressed, .tHeld, .tReleased]
  | .P => [.btn0, .btn1, .btn2, .btn3, .btn4]
  | .H => [.heldRelease, .repInc, .repDec]
  | .A => [.actToggleOn, .actToggleOff, .actCool, .actWarm, .actAdjBoth, .actAdjCool, .actAdjWarm, .actAdjNone, .actNone]
  | .U => [.uIdle, .uClr, .uWra, .uWrb, .uSet]
  | .V => [.commit, .commitNop]
  | .B => [.bset (BitVec.ofNat 8 w) (BitVec.ofNat 8 (w / 256))]

/-- The rows a word of a format selects: `(word & mask) = match` (R47). -/
def selected (f : Format) (w : Nat) : List Instr :=
  (rowsOf f w).filter fun i => (w &&& i.mask) == i.pattern

/-- The decoder: the operations a dispatch word selects, in the order they run. It is total, and refuses by name a number too wide
for the format and a word with a reserved code (R50). An empty list is an answer: an idle edge (E), a tick or overflow event of
format E that goes on to format S or V, no button pressed (P), a mask format H does not act on, no overflow (V). -/
def decode (f : Format) (w : Nat) : Except Reject (List Instr) :=
  if f.fits w = false then .error .tooWide
  else if f.codesLegal w = false then .error .reservedCode
  else .ok (selected f w)

/-- The encoder: an operation's word in its format, with the bits its row's mask leaves open taken from `spare`. -/
def encodeWith (spare : Nat) (i : Instr) : Nat :=
  i.pattern ||| (spare &&& (2 ^ i.format.width - 1 - i.mask))

/-- The encoder with every open bit 0: the row's `match` (for BSET, `{lb, la}`). -/
def encode (i : Instr) : Nat := encodeWith 0 i

/-- The one operation a word selects in a format, where it selects exactly one. -/
def decodeOne (f : Format) (w : Nat) : Option Instr :=
  match decode f w with
  | .ok [i] => some i
  | _ => none

/-- The formats a bare word of `nbits` bits may belong to, in the order in which `decodeTableWord` tries them. A word carries no
format of its own (R47: the agent that evaluates it knows the format), and words of different formats coincide, so an order must be
fixed: first the ones an agent dispatches a whole step by. DESIGN CHOICE (log entry 9). -/
def formatsOfSize (nbits : Nat) : List Format :=
  if nbits = 16 then [.B]
  else if nbits = 8 then [.S, .E, .P, .A, .H, .U, .V]
  else [Format.S, .E, .P, .A, .H, .U, .V].filter fun f => f.width == nbits

/-- The operation a bare table word stands for: the first format, in the order of `formatsOfSize`, in which it selects exactly one
row. `nbits` is the word's size in whole bytes (or, where given so, its exact width). -/
def decodeTableWord (nbits w : Nat) : Option Instr :=
  (formatsOfSize nbits).findSome? fun f => decodeOne f w

/-- Bit 7 of a stimulus byte (R52). -/
def byteRst (v : BitVec 8) : Bool := v.getLsbD 7

/-- Bit 6 of a stimulus byte (R52). -/
def byteTick (v : BitVec 8) : Bool := v.getLsbD 6

/-- Bit 5 of a stimulus byte (R52). -/
def byteOvf (v : BitVec 8) : Bool := v.getLsbD 5

/-- The pressed mask a stimulus byte gives: `p = ~btn_n`, `btn_n` its bits 4:0 (R10, R52). -/
def bytePressed (v : BitVec 8) : Pressed := ~~~ (v.extractLsb' 0 5)

/-- The cycle-level byte of an abstract stimulus with no other button pressed: RESET 0x9F, TICK p 0x40 | (~p & 0x1F), OVF 0x3F; UOP
has none (R52). An edge is its own byte. -/
def encodeStimulus : Stimulus → Option (BitVec 8)
  | .reset => some 0x9F#8
  | .tick p => some (0x40#8 ||| (~~~ p).setWidth 8)
  | .uop => none
  | .ovf => some 0x3F#8
  | .edge v => some v

end Sys2Proof
end

