-- ==== Sys2Proof/Config.lean ====
section
/-!
DEFINITION. What one implementation fixes and what the spec leaves open: the raw contents of the two lookup tables (R33, D16), which
table has which top value (R32, D33), the clock parameters (D27), and the free values. Each is an uninterpreted constant: no proof
can see a value of it, so a claim holds for every choice. The spec's fixed numbers are in `Machine/Constants.lean`; the constraints
R31 and R32 are built into the tables in `Machine/Rom.lean`.
-/

namespace Sys2Proof.Config

/-- Raw contents of `LUT_A` by index, before the constraints of R31 and R32 (R33, D16; log entry 6). -/
opaque rawA : Nat → Target

/-- Raw contents of `LUT_B` by index, before the constraints of R31 and R32 (R33, D16; log entry 6). -/
opaque rawB : Nat → Target

/-- Whether the table that tops out at 4095 is `LUT_A` (then `LUT_B` tops out at 2395) or the other way round (R32, D33;
log entry 7). -/
opaque topIsA : Bool

/-- `F_CLK`, the clock frequency, in Hz; no functional rule reads it (D27; log entry 8). -/
opaque fClk : Nat

/-- `T_TICK`, the tick period, in nanoseconds; no functional rule reads it (D27, U13; log entry 8). -/
opaque tTick : Nat

/-- Free value: what `shadow_a` holds after a reset (R28, R99, U2), by the number of free values drawn before (log entry 5). -/
opaque freeShadowA : Nat → Target

/-- Free value: what `shadow_b` holds after a reset (R28, R99, U2), by the number of free values drawn before (log entry 5). -/
opaque freeShadowB : Nat → Target

/-- Free value: the stimulus the environment applies where the state lists none (R105, R106, U14), by the number of free values
drawn before (log entry 2). -/
opaque freeInput : Nat → Stimulus

end Sys2Proof.Config
end

