-- ==== Sys2Proof/Machine/State.lean ====
section
/-!
DEFINITION. The state of the machine: the 17 registers R27 calls complete (R14 to R26), under the spec's names, and three fields of the
model's own (the sampled pressed mask, the stimuli still to be applied, the count of free values drawn); the reset state (R28); the
reasons a step can stop.
-/

namespace Sys2Proof.Machine

/-- The machine's state. -/
@[ext]
structure State where
  /-- Current FSM state, the sequencing register (R14). -/
  state      : FsmState
  /-- Last recognised button action (R15). -/
  button     : ButtonAction
  /-- Whether the lamp output is enabled (R16). -/
  power_on   : Bool
  /-- The active logical channels (R17). -/
  channel    : Channel
  /-- Brightness level (R18). -/
  level      : Level
  /-- Debounce tick counter, 4 bits (R20). -/
  db_cnt     : BitVec 4
  /-- Typematic delay counter, 9 bits (R21). -/
  hold_delay : BitVec 9
  /-- Typematic rate counter, 4 bits (R21). -/
  hold_rate  : BitVec 4
  /-- The busy/processing LED's register (R22). -/
  indicator  : Bool
  /-- Request latch, warm / channel A (R23). -/
  req_la     : Level
  /-- Request latch, cool / channel B (R23). -/
  req_lb     : Level
  /-- Step of the update sequencer (R23). -/
  useq       : Useq
  /-- Synchronisation-enable flag (R24). -/
  sync_en    : Bool
  /-- Shadow register of channel A, warm (R25). -/
  shadow_a   : Target
  /-- Shadow register of channel B, cool (R25). -/
  shadow_b   : Target
  /-- Live compare register of channel A, warm (R26). -/
  live_a     : Target
  /-- Live compare register of channel B, cool (R26). -/
  live_b     : Target
  /-- The model's: the pressed mask the latest tick sampled, used throughout that tick (R10; log entry 4). -/
  p          : Pressed
  /-- The model's: the stimuli still to be applied, the next one first (R52; log entry 2). -/
  stimuli    : List Stimulus
  /-- The model's: how many free values have been drawn (log entry 3). -/
  draws      : Nat
  deriving DecidableEq, Repr

/-- The machine right after reset (R28, R99). R28 leaves `shadow_a` and `shadow_b` unspecified: they hold free values (DESIGN CHOICE,
log entry 5). `p`, `stimuli` and `draws` are the model's own (DESIGN CHOICE, log entries 2 to 4). -/
def State.reset : State where
  state := .idle
  button := .bNone
  power_on := false
  channel := .chNone
  level := 0
  db_cnt := 0
  hold_delay := 0
  hold_rate := 0
  indicator := false
  req_la := 0
  req_lb := 0
  useq := .uIdle
  sync_en := false
  shadow_a := Config.freeShadowA 0
  shadow_b := Config.freeShadowB 0
  live_a := 0
  live_b := 0
  p := 0
  stimuli := []
  draws := 1

/-- The faults of the machine: none. "The block raises no synchronous exception: no operation, in any state, on any input, faults,
traps or signals an error" (R90), so this type has no constructor. -/
inductive Fault where
  deriving DecidableEq, Repr

/-- Why a step has no meaning under the spec. All are safe: the machine stops where the spec gives no next state. -/
inductive Refusal where
  /-- Raised by an arm of `exec` whose operation has no meaning yet (no arm at present). Safe. -/
  | notModelled (mnemonic : String)
  /-- Raised by the five T_ operations: a tick while `useq` is not `U_IDLE`, which R104 forbids and a model must refuse
  (U4). Safe. -/
  | tickWhileUpdating
  /-- Raised by BSET: a request while `useq` is not `U_IDLE`, outside the rules (R79, U4). Safe. -/
  | requestWhileUpdating
  /-- Raised by a UOP stimulus while `useq` is `U_IDLE`: not allowed (R52, vector V-B15). Safe. -/
  | uopNotAllowed
  /-- Raised by a dispatch whose word the decoder refuses, a reserved code (R50, R91). The registers' types hold none, so no state
  raises it. Safe. -/
  | reservedCode
  deriving DecidableEq, Repr

/-- What a step answers. -/
abbrev Result := Host.Outcome State Fault Refusal

end Sys2Proof.Machine
end

