-- ==== Sys2Proof/Machine/Constants.lean ====
section
/-!
DEFINITION. The block's numeric constants (R7, R48), each under one name, so that a corrected figure changes one line. The spec calls
the figures unaudited (U9; log entry 17).
-/

namespace Sys2Proof.Machine

/-- Debounce threshold: a press commits when the count exceeds it (R56). -/
def DEBOUNCE_TICKS : Nat := 10

/-- Typematic initial delay, in ticks (R63). -/
def HOLD_DELAY : Nat := 350

/-- Typematic repeat rate, in ticks (R63). -/
def HOLD_RATE : Nat := 15

/-- The level a turned-on lamp starts at (R58). -/
def DEFAULT_LEVEL : Level := 180

/-- Ceiling of `level` (R53). -/
def LEVEL_MAX : Level := 255

/-- Floor of `level` under decrease (R53). -/
def LEVEL_MIN : Level := 1

/-- The level of a lamp switched off, and of a channel forced off (R58, R72, R73). -/
def LEVEL_OFF : Level := 0

/-- The greater of the two table tops (R32). -/
def TOP_HIGH : Target := 4095

/-- The lesser of the two table tops (R32). -/
def TOP_LOW : Target := 2395

end Sys2Proof.Machine
end

