-- ==== Sys2Proof/Machine/Rom.lean ====
section
/-!
DEFINITION. The two lookup tables and their one access, `MemRead` (R29, R30). The contents are parameters (R33, D16): uninterpreted raw
contents, shaped so that R31 (non-decreasing) and R32 (tops {4095, 2395}) hold whatever they are. Every pair of tables that meets
R31 and R32 is given by some raw contents (itself), so the shaping excludes none (log entry 6).
-/

namespace Sys2Proof.Machine

/-- Greatest of the entries 0 to `i`. -/
def runningMax (raw : Nat → Target) : Nat → Nat
  | 0 => (raw 0).toNat
  | i + 1 => max (runningMax raw i) (raw (i + 1)).toNat

/-- A table of 256 entries that does not decrease and tops out at `top`, made from raw contents. A table that already is one is left
as it is. -/
def shapeTable (raw : Nat → Target) (top : Target) (i : Nat) : Target :=
  if 255 ≤ i then top else BitVec.ofNat 16 (min top.toNat (runningMax raw i))

/-- The top value of a table: 4095 for one of the two and 2395 for the other (R32, D33). -/
def topOf (t : Rom) : Target :=
  match t with
  | .lutA => if Config.topIsA then TOP_HIGH else TOP_LOW
  | .lutB => if Config.topIsA then TOP_LOW else TOP_HIGH

/-- The raw contents of a table. -/
def rawOf (t : Rom) : Nat → Target :=
  match t with
  | .lutA => Config.rawA
  | .lutB => Config.rawB

/-- `MemRead(T, i, 2)`: entry `i` of table `T`, 16 bits; total on its 8-bit index, without side effect (R30, R39). Irreducible, so that
no proof that only compares entries looks into the table. -/
@[irreducible] def memRead (t : Rom) (i : Level) : Target := shapeTable (rawOf t) (topOf t) i.toNat

/-- `LUT_A[i]`, warm / channel A (R29). -/
def LUT_A (i : Level) : Target := memRead .lutA i

/-- `LUT_B[i]`, cool / channel B (R29). -/
def LUT_B (i : Level) : Target := memRead .lutB i

/-- The pair of PWM targets of a request (R79). -/
def targets (la lb : Level) : Target × Target := (LUT_A la, LUT_B lb)

end Sys2Proof.Machine
end

