-- ==== Sys2Proof/Machine/Ops.lean ====
section
/-!
DEFINITION. The named operations over the registers, shared by the meanings: one update per register or group of registers that is
written together, sequencing of results, the saturating arithmetic of R53, and the preconditions of R79 and R104. The block takes no
exception and returns from none (R90, R91), so there is no such operation here.
-/

namespace Sys2Proof.Machine

/-- `state <- S` (R14). -/
def State.goto (x : FsmState) (s : State) : State := { s with state := x }

/-- `button <- b` (R15). -/
def State.setButton (x : ButtonAction) (s : State) : State := { s with button := x }

/-- `power_on <- b` (R16). -/
def State.setPower (x : Bool) (s : State) : State := { s with power_on := x }

/-- `channel <- c` (R17). -/
def State.setChannel (x : Channel) (s : State) : State := { s with channel := x }

/-- `level <- l` (R18). -/
def State.setLevel (x : Level) (s : State) : State := { s with level := x }

/-- `db_cnt <- n`, a count that fits 4 bits (R20, R53 (c)). -/
def State.setDbCnt (n : Nat) (s : State) : State := { s with db_cnt := BitVec.ofNat 4 n }

/-- `hold_delay <- d`, a count that fits 9 bits (R21). -/
def State.setHoldDelay (d : Nat) (s : State) : State := { s with hold_delay := BitVec.ofNat 9 d }

/-- `hold_rate <- r`, a count that fits 4 bits (R21). -/
def State.setHoldRate (r : Nat) (s : State) : State := { s with hold_rate := BitVec.ofNat 4 r }

/-- `indicator <- b` (R22). -/
def State.setIndicator (x : Bool) (s : State) : State := { s with indicator := x }

/-- The three writes of a BSET: `req_la <- la`, `req_lb <- lb`, `useq <- U_CLR` (R79). -/
def State.latchRequest (la lb : Level) (s : State) : State := { s with req_la := la, req_lb := lb, useq := .uClr }

/-- `useq <- u` (R23). -/
def State.setUseq (x : Useq) (s : State) : State := { s with useq := x }

/-- `sync_en <- b` (R24). -/
def State.setSyncEn (x : Bool) (s : State) : State := { s with sync_en := x }

/-- `shadow_a <- v`, all 16 bits in one step (R25, R38 (b)). -/
def State.setShadowA (v : Target) (s : State) : State := { s with shadow_a := v }

/-- `shadow_b <- v`, all 16 bits in one step (R25, R38 (b)). -/
def State.setShadowB (v : Target) (s : State) : State := { s with shadow_b := v }

/-- `live_a <- a` and `live_b <- b`, both in the same step (R26, R38 (c)). -/
def State.setLive (a b : Target) (s : State) : State := { s with live_a := a, live_b := b }

/-- A tick samples the button port, once (R10). -/
def State.samplePort (x : Pressed) (s : State) : State := { s with p := x }

/-- The settings record (R13). -/
def State.settings (s : State) : LampSettings :=
  ⟨s.state, s.button, s.power_on, s.channel, s.level⟩

/-- Output `cmp_a` (R12). -/
def State.cmp_a (s : State) : Target := s.live_a

/-- Output `cmp_b` (R12). -/
def State.cmp_b (s : State) : Target := s.live_b

/-- One effect after another: the second runs on the state the first leaves, and a stop stays a stop. -/
def andThen (r : Result) (k : State → Result) : Result :=
  match r with
  | .next s => k s
  | .fault f => .fault f
  | .refused q => .refused q

/-- `sat_inc(l)` (R53 (a)). -/
def satInc (l : Level) : Level := if l = LEVEL_MAX then LEVEL_MAX else l + 1

/-- `floor_dec(l)` (R53 (b)): never below 1, and a 0 is left alone. -/
def floorDec (l : Level) : Level := if LEVEL_MIN.toNat < l.toNat then l - 1 else l

/-- `min(350, hold_delay + 1)` (R63). -/
def nextHoldDelay (s : State) : Nat := min HOLD_DELAY (s.hold_delay.toNat + 1)

/-- `min(15, hold_rate + 1)` (R63). -/
def nextHoldRate (s : State) : Nat := min HOLD_RATE (s.hold_rate.toNat + 1)

/-- A tick's effect, where a tick may occur: not while the sequencer is busy (R104). -/
def atTick (s : State) (k : Result) : Result :=
  if s.useq = .uIdle then k else .refused .tickWhileUpdating

/-- BSET(la, lb): "requires useq = U_IDLE" (R79). -/
def request (la lb : Level) (s : State) : Result :=
  if s.useq = .uIdle then .next (s.latchRequest la lb) else .refused .requestWhileUpdating

end Sys2Proof.Machine
end

