-- ==== Sys2Proof/Machine/Operands.lean ====
section
/-!
DEFINITION. The operands of the operations, all of which are registers, the pressed mask, or wired constants (R48): the bits of the
pressed mask, the dispatch words assembled from the registers (R47), and the table reads of a latched request.
-/

namespace Sys2Proof.Machine

/-- `p[i]`: button `i` reads pressed in this tick (R10, R45). -/
def State.pressed (s : State) (i : Nat) : Bool := s.p.getLsbD i

/-- `p = 0b00000`: all five buttons read released (R56, R63). -/
def State.noneDown (s : State) : Bool := s.p == 0

/-- Format S's word (R47). -/
def State.dispatchS (s : State) : Nat := s.state.code

/-- Format P's and H's word, the pressed mask (R47). -/
def State.dispatchP (s : State) : Nat := s.p.toNat

/-- Format A's word (R47). -/
def State.dispatchA (s : State) : Nat := wordA s.power_on s.channel s.button

/-- Format U's word (R47). -/
def State.dispatchU (s : State) : Nat := s.useq.code

/-- Format V's word at an overflow event (R47). -/
def State.dispatchV (s : State) : Nat := wordV true s.sync_en

/-- The A target of the latched request, read when U_WRA writes it (R82, D34). -/
def State.targetA (s : State) : Target := memRead .lutA s.req_la

/-- The B target of the latched request, read when U_WRB writes it (R83, D34). -/
def State.targetB (s : State) : Target := memRead .lutB s.req_lb

end Sys2Proof.Machine
end

