-- ==== Sys2Proof/Machine/Flags.lean ====
section
/-!
DEFINITION. The conditions the operations test. The block has no flag register (R27); its one-bit registers `power_on`, `indicator` and
`sync_en` are written by the operations themselves (R93). Comparisons are of the mathematical values (spec/00_scope.md section 6).
-/

namespace Sys2Proof.Machine

/-- `channel != Ch_None` (R61 to R63). -/
def State.channelActive (s : State) : Bool := s.channel != .chNone

/-- Exactly one of the two channels is active: `channel = Ch_Warm || channel = Ch_Cool` (R58). -/
def State.singleChannel (s : State) : Bool := s.channel == .chWarm || s.channel == .chCool

/-- BTN0's first case: the lamp is off and no channel is active (R58). -/
def State.turnsOn (s : State) : Bool := !s.power_on && s.channel == .chNone

/-- BTN0's second case: the lamp is on and a single channel is active (R58). -/
def State.widens (s : State) : Bool := s.power_on && s.singleChannel

/-- `db_cnt + 1 > 10`: this is the eleventh consecutive pressed tick in `Debouncing` (R56). -/
def State.debounceDone (s : State) : Bool := decide (DEBOUNCE_TICKS < s.db_cnt.toNat + 1)

/-- `due` of T_HELD: both counters, incremented first, have reached their thresholds, and a channel is active (R63). -/
def State.repeatDue (s : State) : Bool :=
  decide (HOLD_DELAY ≤ nextHoldDelay s) && decide (HOLD_RATE ≤ nextHoldRate s) && s.channelActive

end Sys2Proof.Machine
end

