-- ==== Sys2Proof/Machine/Brightness.lean ====
section
/-!
DEFINITION. The Brightness Engine: the request BSET, the four micro-operations of the update protocol and the idle step (UPD), and the
two overflow operations (OVF). spec/42_brightness_engine.md.
-/

namespace Sys2Proof.Machine

/-- BSET(la, lb) (R79). -/
def execBset (la lb : Level) (s : State) : Result := request la lb s

/-- U_IDLE: nothing is written (R88). -/
def execUIdle (s : State) : Result := .next s

/-- U_CLR: `sync_en <- 0; useq <- U_WRA` (R81). -/
def execUClr (s : State) : Result := .next ((s.setSyncEn false).setUseq .uWra)

/-- U_WRA: `shadow_a <- MemRead(LUT_A, req_la, 2); useq <- U_WRB` (R82). -/
def execUWra (s : State) : Result := .next ((s.setShadowA s.targetA).setUseq .uWrb)

/-- U_WRB: `shadow_b <- MemRead(LUT_B, req_lb, 2); useq <- U_SET` (R83). -/
def execUWrb (s : State) : Result := .next ((s.setShadowB s.targetB).setUseq .uSet)

/-- U_SET: `sync_en <- 1; useq <- U_IDLE` (R84). -/
def execUSet (s : State) : Result := .next ((s.setSyncEn true).setUseq .uIdle)

/-- COMMIT: both live registers from both shadow registers, in one step; `sync_en` is not consumed (R85, R87). -/
def execCommit (s : State) : Result := .next (s.setLive s.shadow_a s.shadow_b)

/-- COMMIT_NOP: an overflow that copies nothing (R85). -/
def execCommitNop (s : State) : Result := .next s

end Sys2Proof.Machine
end

