-- ==== Sys2Proof/Machine/Actions.lean ====
section
/-!
DEFINITION. The Action Dispatcher: its nine cases and `action()`, which selects one of them by the settings alone.
spec/41_action_dispatcher.md.
-/

namespace Sys2Proof.Machine

/-- ACT_TOGGLE_ON: `BSET(level, level)` (R70). -/
def execActToggleOn (s : State) : Result := request s.level s.level s

/-- ACT_TOGGLE_OFF: `indicator <- 0; BSET(level, level)` (R71). -/
def execActToggleOff (s : State) : Result := request s.level s.level (s.setIndicator false)

/-- ACT_COOL: `BSET(0, level)` (R72). -/
def execActCool (s : State) : Result := request LEVEL_OFF s.level s

/-- ACT_WARM: `BSET(level, 0)` (R73). -/
def execActWarm (s : State) : Result := request s.level LEVEL_OFF s

/-- ACT_ADJ_BOTH: `BSET(level, level)` (R74). -/
def execActAdjBoth (s : State) : Result := request s.level s.level s

/-- ACT_ADJ_COOL: `BSET(0, level)` (R75). -/
def execActAdjCool (s : State) : Result := request LEVEL_OFF s.level s

/-- ACT_ADJ_WARM: `BSET(level, 0)` (R76). -/
def execActAdjWarm (s : State) : Result := request s.level LEVEL_OFF s

/-- ACT_ADJ_NONE: nothing (R77). -/
def execActAdjNone (s : State) : Result := .next s

/-- ACT_NONE: nothing (R78). -/
def execActNone (s : State) : Result := .next s

/-- `action()`: the one case that `button`, `power_on` and `channel` select (R69). -/
def action (s : State) : Result :=
  match s.button with
  | .bNone => execActNone s
  | .bWarmOnly => execActWarm s
  | .bCoolOnly => execActCool s
  | .bToggleBoth => if s.power_on then execActToggleOn s else execActToggleOff s
  | .bAdjust =>
    match s.channel with
    | .chNone => execActAdjNone s
    | .chWarm => execActAdjWarm s
    | .chCool => execActAdjCool s
    | .chBoth => execActAdjBoth s

end Sys2Proof.Machine
end

