-- ==== Sys2Proof/Machine/Buttons.lean ====
section
/-!
DEFINITION. The Button State Machine: the five transition functions, the button sub-operations of T_PRESSED and the held sub-operations
of T_HELD. A transition function is one whole tick, one atomic step (R3). spec/40_button_state_machine.md.
-/

namespace Sys2Proof.Machine

/-- BTN0, toggle: turn on, widen a single channel to both, or turn off (R58). -/
def btn0 (s : State) : State :=
  if s.turnsOn then (((s.setPower true).setChannel .chBoth).setLevel DEFAULT_LEVEL).setButton .bToggleBoth
  else if s.widens then (s.setChannel .chBoth).setButton .bToggleBoth
  else (((s.setPower false).setLevel LEVEL_OFF).setChannel .chNone).setButton .bToggleBoth

/-- BTN1, cool only (R59). -/
def btn1 (s : State) : State := (s.setButton .bCoolOnly).setChannel .chCool

/-- BTN2, warm only (R60). -/
def btn2 (s : State) : State := (s.setButton .bWarmOnly).setChannel .chWarm

/-- BTN3, increase: only with a channel active (R61). -/
def btn3 (s : State) : State :=
  if s.channelActive then (s.setLevel (satInc s.level)).setButton .bAdjust else s

/-- BTN4, decrease: only with a channel active (R62). -/
def btn4 (s : State) : State :=
  if s.channelActive then (s.setLevel (floorDec s.level)).setButton .bAdjust else s

/-- BTN0 (R58). -/
def execBtn0 (s : State) : Result := .next (btn0 s)

/-- BTN1 (R59). -/
def execBtn1 (s : State) : Result := .next (btn1 s)

/-- BTN2 (R60). -/
def execBtn2 (s : State) : Result := .next (btn2 s)

/-- BTN3 (R61). -/
def execBtn3 (s : State) : Result := .next (btn3 s)

/-- BTN4 (R62). -/
def execBtn4 (s : State) : Result := .next (btn4 s)

/-- The sub-operation of button `i`, where that button reads pressed. -/
def ifPressed (i : Nat) (f : State → State) (s : State) : State := if s.pressed i then f s else s

/-- The pressed buttons' sub-operations, in the fixed order 0, 1, 2, 3, 4, each on the settings the earlier ones left (R57). -/
def pressedButtons (s : State) : State :=
  ifPressed 4 btn4 (ifPressed 3 btn3 (ifPressed 2 btn2 (ifPressed 1 btn1 (ifPressed 0 btn0 s))))

/-- Entry to `ButtonHeld`: both hold counters cleared (R57). -/
def enterHeld (s : State) : State := ((s.goto .buttonHeld).setHoldDelay 0).setHoldRate 0

/-- T_IDLE: any pressed button starts a debounce (R55). -/
def execTIdle (s : State) : Result :=
  atTick s (if s.noneDown then .next s else .next ((s.goto .debouncing).setDbCnt 0))

/-- T_DEBOUNCE: the release test first, then the count (R56). -/
def execTDebounce (s : State) : Result :=
  atTick s <|
    if s.noneDown then .next ((s.goto .idle).setDbCnt 0)
    else if s.debounceDone then .next (((s.goto .buttonPressed).setIndicator true).setDbCnt 0)
    else .next (s.setDbCnt (s.db_cnt.toNat + 1))

/-- T_PRESSED: the pressed buttons' sub-operations, `action()` once, then `ButtonHeld` (R57). -/
def execTPressed (s : State) : Result :=
  atTick s (andThen (action (pressedButtons s)) fun t => .next (enterHeld t))

/-- HELD_RELEASE: to `ButtonReleased`, both hold counters cleared (R63). -/
def execHeldRelease (s : State) : Result :=
  .next (((s.goto .buttonReleased).setHoldDelay 0).setHoldRate 0)

/-- A typematic repeat: the new level, `button <- B_Adjust`, `action()`, `hold_rate <- 0` (R64, R65). -/
def repeatAdjust (l : Level) (s : State) : Result :=
  andThen (action ((s.setLevel l).setButton .bAdjust)) fun t => .next (t.setHoldRate 0)

/-- REP_INC (R64). -/
def execRepInc (s : State) : Result := repeatAdjust (satInc s.level) s

/-- REP_DEC (R65). -/
def execRepDec (s : State) : Result := repeatAdjust (floorDec s.level) s

/-- The counting of T_HELD: both counters incremented, saturating (R63). -/
def countHeld (s : State) : State := (s.setHoldDelay (nextHoldDelay s)).setHoldRate (nextHoldRate s)

/-- T_HELD: HELD_RELEASE when all buttons are released; else count, and repeat when due, button 3 before button 4 (R63). -/
def execTHeld (s : State) : Result :=
  atTick s <|
    if s.noneDown then execHeldRelease s
    else if s.pressed 3 && s.repeatDue then execRepInc (countHeld s)
    else if s.pressed 4 && s.repeatDue then execRepDec (countHeld s)
    else .next (countHeld s)

/-- T_RELEASED: to `Idle`, indicator off; the port is not read (R66). -/
def execTReleased (s : State) : Result := atTick s (.next ((s.goto .idle).setIndicator false))

end Sys2Proof.Machine
end

