-- ==== Sys2Proof/Machine/Reset.lean ====
section
/-!
DEFINITION. The RESET operation. spec/70_reset_and_hazards.md R99.
-/

namespace Sys2Proof.Machine

/-- RESET: every register to the reset value of R28, whatever it held; `shadow_a` and `shadow_b` "become unspecified", so each takes
a fresh free value. The model's own `p` and `stimuli` (inputs, not registers) stay (R99; log entries 4, 5). -/
def execReset (s : State) : Result :=
  .next { State.reset with
    shadow_a := Config.freeShadowA s.draws
    shadow_b := Config.freeShadowB s.draws
    p := s.p
    stimuli := s.stimuli
    draws := s.draws + 1 }

end Sys2Proof.Machine
end

