-- ==== Sys2Proof/Machine/Dispatch.lean ====
section
/-!
DEFINITION. One arm per operation: the call of its meaning.
-/

namespace Sys2Proof.Machine

def exec (i : Instr) (s : State) : Host.Outcome State Fault Refusal :=
  match i with
  | .reset => Sys2Proof.Machine.execReset s
  | .tIdle => Sys2Proof.Machine.execTIdle s
  | .tDebounce => Sys2Proof.Machine.execTDebounce s
  | .tPressed => Sys2Proof.Machine.execTPressed s
  | .tHeld => Sys2Proof.Machine.execTHeld s
  | .tReleased => Sys2Proof.Machine.execTReleased s
  | .btn0 => Sys2Proof.Machine.execBtn0 s
  | .btn1 => Sys2Proof.Machine.execBtn1 s
  | .btn2 => Sys2Proof.Machine.execBtn2 s
  | .btn3 => Sys2Proof.Machine.execBtn3 s
  | .btn4 => Sys2Proof.Machine.execBtn4 s
  | .heldRelease => Sys2Proof.Machine.execHeldRelease s
  | .repInc => Sys2Proof.Machine.execRepInc s
  | .repDec => Sys2Proof.Machine.execRepDec s
  | .actToggleOn => Sys2Proof.Machine.execActToggleOn s
  | .actToggleOff => Sys2Proof.Machine.execActToggleOff s
  | .actCool => Sys2Proof.Machine.execActCool s
  | .actWarm => Sys2Proof.Machine.execActWarm s
  | .actAdjBoth => Sys2Proof.Machine.execActAdjBoth s
  | .actAdjCool => Sys2Proof.Machine.execActAdjCool s
  | .actAdjWarm => Sys2Proof.Machine.execActAdjWarm s
  | .actAdjNone => Sys2Proof.Machine.execActAdjNone s
  | .actNone => Sys2Proof.Machine.execActNone s
  | .bset la lb => Sys2Proof.Machine.execBset la lb s
  | .uIdle => Sys2Proof.Machine.execUIdle s
  | .uClr => Sys2Proof.Machine.execUClr s
  | .uWra => Sys2Proof.Machine.execUWra s
  | .uWrb => Sys2Proof.Machine.execUWrb s
  | .uSet => Sys2Proof.Machine.execUSet s
  | .commit => Sys2Proof.Machine.execCommit s
  | .commitNop => Sys2Proof.Machine.execCommitNop s

end Sys2Proof.Machine
end

