-- ==== Sys2Proof/Machine/Agents.lean ====
section
/-!
DEFINITION. The four agents of R4 and the effect of one stimulus (R52). Each agent assembles its dispatch word, decodes it and runs what
it selects. At one clock edge the agents run in the order of R92; without an event the sequencer still performs its micro-operation
(R107).
-/

namespace Sys2Proof.Machine

/-- Operations one after another, in the order given. -/
def execAll : List Instr → State → Result
  | [], s => .next s
  | i :: is, s => andThen (exec i s) (execAll is)

/-- What a dispatch word of a format selects, run in order; a word with a reserved code has no meaning (R50, R91). -/
def runWord (f : Format) (w : Nat) (s : State) : Result :=
  match decode f w with
  | .ok is => execAll is s
  | .error _ => .refused .reservedCode

/-- The RESET agent: one reset step (R99), format E's `1xx`. -/
def resetAgent (s : State) : Result := runWord .E (wordE true false false) s

/-- The TICK agent: samples the port once and runs the transition function that `state` selects before the tick
(R2, R10, R54). -/
def tickAgent (p : Pressed) (s : State) : Result := runWord .S s.dispatchS (s.samplePort p)

/-- The UPD agent: the micro-operation `useq` selects, U_IDLE included (R80, R88). -/
def updAgent (s : State) : Result := runWord .U s.dispatchU s

/-- The OVF agent: COMMIT or COMMIT_NOP by `sync_en` (R85). -/
def ovfAgent (s : State) : Result := runWord .V s.dispatchV s

/-- One rising edge of `clk` with an input vector. `rst` wins (R92 (1)). Otherwise an overflow runs first, on the values held before
the edge (R92 (2), (3)); then the tick, if there is one; without a tick the sequencer performs its step (R107). -/
def edgeAgents (v : BitVec 8) (s : State) : Result :=
  if byteRst v then resetAgent s
  else
    andThen (if byteOvf v then ovfAgent s else .next s) fun t =>
      if byteTick v then tickAgent (bytePressed v) t else updAgent t

/-- The effect of one stimulus (R52). -/
def applyStimulus (x : Stimulus) (s : State) : Result :=
  match x with
  | .reset => resetAgent s
  | .tick p => tickAgent p s
  | .uop => if s.useq = .uIdle then .refused .uopNotAllowed else updAgent s
  | .ovf => ovfAgent s
  | .edge v => edgeAgents v s

/-- The stimulus the next step applies: the first one listed, or, where none is listed, whatever the environment does
(a free value; log entry 2). -/
def State.nextStimulus (s : State) : Stimulus :=
  match s.stimuli with
  | x :: _ => x
  | [] => Config.freeInput s.draws

/-- The state with its next stimulus taken. -/
def State.takeStimulus (s : State) : State :=
  match s.stimuli with
  | _ :: xs => { s with stimuli := xs }
  | [] => { s with draws := s.draws + 1 }

/-- Stimuli one after another, stopping where one has no meaning. -/
def applyAll : List Stimulus → State → Result
  | [], s => .next s
  | x :: xs, s => andThen (applyStimulus x s) (applyAll xs)

/-- `UOP` as often as it takes to bring `useq` back to `U_IDLE`, at most `n` times. -/
def drainUpTo : Nat → State → Result
  | 0, s => .next s
  | n + 1, s => if s.useq = .uIdle then .next s else andThen (applyStimulus .uop s) (drainUpTo n)

/-- The shorthand `DRAIN` of the trace notation: zero to four `UOP` (R52). -/
def drain (s : State) : Result := drainUpTo 4 s

/-- A `TICK` line followed by its `DRAIN` (R52). -/
def tickDrain (p : Pressed) (s : State) : Result := andThen (applyStimulus (.tick p) s) drain

/-- `TICK` lines, each followed by its `DRAIN` (R52). -/
def ticks : List Pressed → State → Result
  | [], s => .next s
  | p :: ps, s => andThen (tickDrain p s) (ticks ps)

end Sys2Proof.Machine
end

