-- ==== Sys2Proof/Machine/Fetch.lean ====
section
/-!
DEFINITION. How one operation of the table comes to run in the very next step. The block fetches nothing: an operation runs because
registers and inputs make up its dispatch word (R47, R49). `arm` sets those registers and puts the stimulus that runs the operation
first (log entry 10). An operation of formats P, H, A, B runs inside the tick that R49 nests it in, never alone.
-/

namespace Sys2Proof.Machine

/-- A stimulus put before those still to be applied. -/
def State.push (x : Stimulus) (s : State) : State := { s with stimuli := x :: s.stimuli }

/-- The next step is a tick with pressed mask `p`, in state `x`, with the sequencer idle as R104 requires. -/
def State.armTick (x : FsmState) (p : Pressed) (s : State) : State :=
  { s with state := x, useq := .uIdle }.push (.tick p)

/-- The next step's `action()` sees the settings a format A word holds; the tick presses no button (R57 (b)). -/
def State.armAction (w : Nat) (s : State) : State :=
  { s with
    power_on := decide (32 ≤ w)
    channel := (Channel.ofCode (w / 8 % 4)).getD s.channel
    button := (ButtonAction.ofCode (w % 8)).getD s.button }.armTick .buttonPressed 0

/-- The next step's `action()` issues BSET(la, lb). Only equal levels, or one level 0, are ever requested (R70 to R76); for any other
pair no state has a next step that requests it, and the state is left as it is. -/
def State.armRequest (la lb : Level) (s : State) : State :=
  if la = lb then { s with button := .bAdjust, channel := .chBoth, level := la }.armTick .buttonPressed 0
  else if la = 0 then { s with button := .bAdjust, channel := .chCool, level := lb }.armTick .buttonPressed 0
  else if lb = 0 then { s with button := .bAdjust, channel := .chWarm, level := la }.armTick .buttonPressed 0
  else s

/-- The next step's T_HELD finds a repeat due (R63). -/
def State.armRepeat (w : Nat) (s : State) : State :=
  { s with
    hold_delay := BitVec.ofNat 9 HOLD_DELAY
    hold_rate := BitVec.ofNat 4 HOLD_RATE
    channel := if s.channel = Channel.chNone then Channel.chBoth else s.channel }.armTick .buttonHeld (BitVec.ofNat 5 w)

/-- Everything it takes for the next step to run an operation, its dispatch word being `w`. -/
def State.arm (i : Instr) (w : Nat) (s : State) : State :=
  match i with
  | .reset => s.push .reset
  | .tIdle => s.armTick .idle s.p
  | .tDebounce => s.armTick .debouncing s.p
  | .tPressed => s.armTick .buttonPressed s.p
  | .tHeld => s.armTick .buttonHeld s.p
  | .tReleased => s.armTick .buttonReleased s.p
  | .btn0 => s.armTick .buttonPressed (BitVec.ofNat 5 w)
  | .btn1 => s.armTick .buttonPressed (BitVec.ofNat 5 w)
  | .btn2 => s.armTick .buttonPressed (BitVec.ofNat 5 w)
  | .btn3 => s.armTick .buttonPressed (BitVec.ofNat 5 w)
  | .btn4 => s.armTick .buttonPressed (BitVec.ofNat 5 w)
  | .heldRelease => s.armTick .buttonHeld 0
  | .repInc => s.armRepeat w
  | .repDec => s.armRepeat w
  | .actToggleOn => s.armAction w
  | .actToggleOff => s.armAction w
  | .actCool => s.armAction w
  | .actWarm => s.armAction w
  | .actAdjBoth => s.armAction w
  | .actAdjCool => s.armAction w
  | .actAdjWarm => s.armAction w
  | .actAdjNone => s.armAction w
  | .actNone => s.armAction w
  | .bset la lb => s.armRequest la lb
  | .uIdle => { s with useq := .uIdle }.push (.edge 0x1F)
  | .uClr => { s with useq := .uClr }.push .uop
  | .uWra => { s with useq := .uWra }.push .uop
  | .uWrb => { s with useq := .uWrb }.push .uop
  | .uSet => { s with useq := .uSet }.push .uop
  | .commit => { s with sync_en := true }.push .ovf
  | .commitNop => { s with sync_en := false }.push .ovf

end Sys2Proof.Machine
end

