-- ==== Sys2Proof/Machine/Step.lean ====
section
/-!
DEFINITION. One step of the machine: the next stimulus is taken and applied. The machine has no terminal state (R6): where no stimulus
is listed, the environment's is a free one.
-/

namespace Sys2Proof.Machine

/-- One step. -/
def step (s : State) : Host.Outcome State Fault Refusal := applyStimulus s.nextStimulus s.takeStimulus

/-- The state in which the next step runs the operation a bare table word stands for (log entries 9, 10). -/
def State.withFetchWord (s : State) (nbits w : Nat) : State :=
  match decodeTableWord nbits w with
  | some i => s.arm i w
  | none => s

end Sys2Proof.Machine
end

