-- ==== Sys2Proof/Safety.lean ====
section
/-!
DEFINITION. The terms claims use: which stimuli are admissible in a state, the invariants the spec states, the successor relation of
`state`, and the history of brightness requests that the pairing property R86 speaks of. None of it is state of the machine.
-/

namespace Sys2Proof.Safety

open Sys2Proof.Machine

/-- A stimulus the spec gives a meaning in a state: a tick needs an idle sequencer (R104), a `UOP` a busy one (R52); reset and
overflow are always admissible (R99, R106). -/
def Admissible (x : Stimulus) (s : State) : Prop :=
  match x with
  | .reset => True
  | .tick _ => s.useq = .uIdle
  | .uop => s.useq ≠ .uIdle
  | .ovf => True
  | .edge v => byteRst v = true ∨ byteTick v = false ∨ s.useq = .uIdle

/-- R19 (a), (b) in the forms this spec gives them. -/
structure SettingsInv (s : State) : Prop where
  on_active : s.power_on = true → s.channel ≠ .chNone ∧ 1 ≤ s.level.toNat
  cool      : s.button = .bCoolOnly → s.channel = .chCool
  warm      : s.button = .bWarmOnly → s.channel = .chWarm
  toggle    : s.button = .bToggleBoth →
    (s.power_on = true ∧ s.channel = .chBoth) ∨ (s.power_on = false ∧ s.channel = .chNone)
  adjust    : s.button = .bAdjust → s.channel ≠ .chNone
  none      : s.button = .bNone → s.channel = .chNone

/-- R20 and R21: the ranges of the three counters, and that each is 0 outside its own state. -/
structure CountersInv (s : State) : Prop where
  db_range    : s.db_cnt.toNat ≤ 11
  db_zero     : s.state ≠ .debouncing → s.db_cnt = 0
  delay_range : s.hold_delay.toNat ≤ 350
  rate_range  : s.hold_rate.toNat ≤ 15
  hold_zero   : s.state ≠ .buttonHeld → s.hold_delay = 0 ∧ s.hold_rate = 0

/-- The synchronisation flag is down from U_CLR until U_SET (R41, R103). -/
def FlagInv (s : State) : Prop := s.sync_en = true → s.useq = .uIdle ∨ s.useq = .uClr

/-- The successors of a value of `state` (R68). -/
def successors : FsmState → List FsmState
  | .idle => [.idle, .debouncing]
  | .debouncing => [.debouncing, .idle, .buttonPressed]
  | .buttonPressed => [.buttonHeld]
  | .buttonHeld => [.buttonHeld, .buttonReleased]
  | .buttonReleased => [.idle]

/-- The operands of three brightness requests of a run since its latest reset: the latest BSET, the latest one whose U_SET has been
performed, and the one whose U_SET was the last before the last COMMIT (R86). -/
structure History where
  requested : Option (Level × Level)
  armed     : Option (Level × Level)
  committed : Option (Level × Level)
  deriving DecidableEq, Repr

/-- No request yet: the history right after a reset. -/
def History.fresh : History := ⟨.none, .none, .none⟩

/-- A tick that left the sequencer at U_CLR issued a BSET; its operands are in the request latch (R79). -/
def History.afterTick (t : State) (h : History) : History :=
  if t.useq = .uClr then { h with requested := some (t.req_la, t.req_lb) } else h

/-- A sequencer step taken in state `s`: U_SET arms the latest request (R84). -/
def History.afterUpd (s : State) (h : History) : History :=
  if s.useq = .uSet then { h with armed := h.requested } else h

/-- An overflow in state `s`: a COMMIT takes the armed request to the live registers (R85). -/
def History.afterOvf (s : State) (h : History) : History :=
  if s.sync_en then { h with committed := h.armed } else h

/-- The history after a stimulus that led from `s` to `t`. -/
def History.after (x : Stimulus) (s t : State) (h : History) : History :=
  match x with
  | .reset => .fresh
  | .tick _ => h.afterTick t
  | .uop => h.afterUpd s
  | .ovf => h.afterOvf s
  | .edge v =>
    if byteRst v then .fresh
    else
      let h' := if byteOvf v then h.afterOvf s else h
      if byteTick v then h'.afterTick t else h'.afterUpd s

/-- The history along a run of stimuli, as far as the run goes. -/
def History.along : List Stimulus → State → History → History
  | [], _, h => h
  | x :: xs, s, h =>
    match applyStimulus x s with
    | .next t => History.along xs t (h.after x s t)
    | .fault _ => h
    | .refused _ => h

/-- The pairing property R86 with what makes it an invariant. `flag_up` is R86 (a), `live` is R86 (b). -/
structure PairingInv (h : History) (s : State) : Prop where
  /-- While the flag is up, the shadow pair is the target pair of the armed request, and no shadow write is under way. -/
  flag_up : s.sync_en = true → (s.useq = .uIdle ∨ s.useq = .uClr) ∧
    ∃ r, h.armed = some r ∧ s.shadow_a = LUT_A r.1 ∧ s.shadow_b = LUT_B r.2
  /-- With the sequencer idle, the armed request is the one in the request latch. -/
  idle_latch : s.sync_en = true → s.useq = .uIdle → h.armed = some (s.req_la, s.req_lb)
  /-- With the sequencer busy, the latch holds the latest request. -/
  busy_latch : s.useq ≠ .uIdle → h.requested = some (s.req_la, s.req_lb)
  /-- After U_WRA, shadow A holds the latched request's target. -/
  wrote_a : s.useq = .uWrb ∨ s.useq = .uSet → s.shadow_a = LUT_A s.req_la
  /-- After U_WRB, so does shadow B. -/
  wrote_b : s.useq = .uSet → s.shadow_b = LUT_B s.req_lb
  /-- The live pair is the reset pair, or the target pair of ONE request, the committed one. -/
  live : (h.committed = .none ∧ s.live_a = 0 ∧ s.live_b = 0) ∨
    ∃ r, h.committed = some r ∧ s.live_a = LUT_A r.1 ∧ s.live_b = LUT_B r.2

/-- How many typematic repeats have fired after `n` ticks in `ButtonHeld` (R109): none before the 350th, then one every 15. -/
def repeatsAfter (n : Nat) : Nat := if n < 350 then 0 else 1 + (n - 350) / 15

end Sys2Proof.Safety
end

