-- ==== Sys2Proof/Certificates/Slice0/Obligations.lean ====
section
/-!
DEFINITION. The statements for the provers, from the numbered rules of spec/. A result statement `exec i s = .next { s with … }` gives
the operation's new values, its completion and its frame at once: every register not named keeps its value. The block has no memory a
program can write (R27, R34), so no frame speaks of memory.
-/

open Sys2Proof Sys2Proof.Machine Sys2Proof.Safety

/-! ### Encoding and dispatch -/

/-- A step runs the operation its dispatch word decodes to: the tick's by format S, the sequencer's by format U, the overflow's by
format V, the reset by format E (R47, R49). A clock edge is made of these, see `Obligations.EdgeRunsItsEventsInOrder`. The next stimulus is
the first one listed, and all a step adds is to take it off the list (log entry 2). -/
def Obligations.StepRunsTheDecodedOperation : Prop :=
  ∀ (s : State) (i : Instr),
    (∀ q, s.nextStimulus = .tick q → decode .S s.state.code = .ok [i] → step s = exec i (s.takeStimulus.samplePort q)) ∧
    (s.nextStimulus = .uop → s.useq ≠ .uIdle → decode .U s.useq.code = .ok [i] → step s = exec i s.takeStimulus) ∧
    (s.nextStimulus = .ovf → decode .V (wordV true s.sync_en) = .ok [i] → step s = exec i s.takeStimulus) ∧
    (s.nextStimulus = .reset → decode .E (wordE true false false) = .ok [i] → step s = exec i s.takeStimulus) ∧
    (∀ v, s.nextStimulus = .edge v → step s = applyStimulus (.edge v) s.takeStimulus) ∧
    (∀ x xs, s.stimuli = x :: xs → s.nextStimulus = x ∧ s.takeStimulus = { s with stimuli := xs })

/-- R54: a tick runs the transition function of the value `state` has before the tick, and only that one. -/
def Obligations.TickRunsTheFunctionOfTheCurrentState : Prop :=
  ∀ (s : State) (q : Pressed),
    (s.state = .idle → applyStimulus (.tick q) s = exec .tIdle (s.samplePort q)) ∧
    (s.state = .debouncing → applyStimulus (.tick q) s = exec .tDebounce (s.samplePort q)) ∧
    (s.state = .buttonPressed → applyStimulus (.tick q) s = exec .tPressed (s.samplePort q)) ∧
    (s.state = .buttonHeld → applyStimulus (.tick q) s = exec .tHeld (s.samplePort q)) ∧
    (s.state = .buttonReleased → applyStimulus (.tick q) s = exec .tReleased (s.samplePort q))

/-- Decode and encode agree: every operation's word, with any value in the bits its row leaves open, decodes to that operation
alone; in format P, whose rows are not exclusive, to a list that has it (R47). -/
def Obligations.DecodeOfEncodeIsTheOperation : Prop :=
  ∀ i : Instr, i.wellFormed = true → ∀ spare : Nat,
    (i.format ≠ .P → decode i.format (encodeWith spare i) = .ok [i]) ∧
    (i.format = .P → ∃ is, decode i.format (encodeWith spare i) = .ok is ∧ i ∈ is)

/-- R47, R50: in every format but P a word selects at most one row, and in S, U, A, B exactly one unless its code is reserved. -/
def Obligations.RowsAreExclusiveAndExhaustive : Prop :=
  ∀ (f : Format) (w : Nat), f ≠ .P →
    (∀ is, decode f w = .ok is → is.length ≤ 1) ∧
    (f = .S ∨ f = .U ∨ f = .A ∨ f = .B → ∀ is, decode f w = .ok is → is.length = 1)

/-- R50: the decoder refuses exactly the words with a reserved code, and the words too wide for their format (R51). -/
def Obligations.ReservedCodesAreRefused : Prop :=
  ∀ (f : Format) (w : Nat),
    (decode f w = .error .tooWide ↔ 2 ^ f.width ≤ w) ∧
    (decode f w = .error .reservedCode ↔
      w < 2 ^ f.width ∧ ((f = .S ∨ f = .U) ∧ 5 ≤ w ∨ f = .A ∧ 5 ≤ w % 8))

/-- R42, R43, R44, R46, R47: a word of every row of the opcode table, written out from the spec's formats and codes (digits grouped by
field), decodes to the operation it stands for; and some words that select several rows, none, or are refused. -/
def Obligations.WordsOfTheSpecDecode : Prop :=
  (decode .E 0b1_0_0 = .ok [.reset] ∧ decode .E 0b1_1_0 = .ok [.reset] ∧ decode .E 0b0_1_1 = .ok []) ∧
  (decode .S 0b000 = .ok [.tIdle] ∧ decode .S 0b001 = .ok [.tDebounce] ∧ decode .S 0b010 = .ok [.tPressed] ∧
    decode .S 0b011 = .ok [.tHeld] ∧ decode .S 0b100 = .ok [.tReleased] ∧ decode .S 0b101 = .error .reservedCode) ∧
  (decode .P 0b00001 = .ok [.btn0] ∧ decode .P 0b00010 = .ok [.btn1] ∧ decode .P 0b00100 = .ok [.btn2] ∧
    decode .P 0b01000 = .ok [.btn3] ∧ decode .P 0b10000 = .ok [.btn4] ∧ decode .P 0b01011 = .ok [.btn0, .btn1, .btn3]) ∧
  (decode .H 0b00000 = .ok [.heldRelease] ∧ decode .H 0b01000 = .ok [.repInc] ∧ decode .H 0b11000 = .ok [.repInc] ∧
    decode .H 0b10001 = .ok [.repDec] ∧ decode .H 0b00100 = .ok []) ∧
  (decode .A 0b1_11_011 = .ok [.actToggleOn] ∧ decode .A 0b0_00_011 = .ok [.actToggleOff] ∧
    decode .A 0b1_10_010 = .ok [.actCool] ∧ decode .A 0b0_01_001 = .ok [.actWarm] ∧ decode .A 0b1_11_100 = .ok [.actAdjBoth] ∧
    decode .A 0b0_10_100 = .ok [.actAdjCool] ∧ decode .A 0b1_01_100 = .ok [.actAdjWarm] ∧
    decode .A 0b0_00_100 = .ok [.actAdjNone] ∧ decode .A 0b0_00_000 = .ok [.actNone] ∧
    decode .A 0b0_00_101 = .error .reservedCode) ∧
  (decode .B 0xB400 = .ok [.bset 0 180] ∧ decode .B 0x00B4 = .ok [.bset 180 0]) ∧
  (decode .U 0b000 = .ok [.uIdle] ∧ decode .U 0b001 = .ok [.uClr] ∧ decode .U 0b010 = .ok [.uWra] ∧
    decode .U 0b011 = .ok [.uWrb] ∧ decode .U 0b100 = .ok [.uSet] ∧ decode .U 0b110 = .error .reservedCode) ∧
  (decode .V 0b1_1 = .ok [.commit] ∧ decode .V 0b1_0 = .ok [.commitNop] ∧ decode .V 0b0_1 = .ok [])

/-- R42 to R44, R46: the codes of the enumerated registers, and the words R47 makes of registers and inputs, most significant field
first. -/
def Obligations.CodesAndDispatchWordsOfTheSpec : Prop :=
  (FsmState.idle.code = 0 ∧ FsmState.debouncing.code = 1 ∧ FsmState.buttonPressed.code = 2 ∧ FsmState.buttonHeld.code = 3 ∧
    FsmState.buttonReleased.code = 4) ∧
  (ButtonAction.bNone.code = 0 ∧ ButtonAction.bWarmOnly.code = 1 ∧ ButtonAction.bCoolOnly.code = 2 ∧
    ButtonAction.bToggleBoth.code = 3 ∧ ButtonAction.bAdjust.code = 4) ∧
  (Channel.chNone.code = 0 ∧ Channel.chWarm.code = 1 ∧ Channel.chCool.code = 2 ∧ Channel.chBoth.code = 3) ∧
  (Useq.uIdle.code = 0 ∧ Useq.uClr.code = 1 ∧ Useq.uWra.code = 2 ∧ Useq.uWrb.code = 3 ∧ Useq.uSet.code = 4) ∧
  (∀ (pw : Bool) (c : Channel) (b : ButtonAction), wordA pw c b = (if pw then 32 else 0) + 8 * c.code + b.code) ∧
  (∀ ovf en : Bool, wordV ovf en = (if ovf then 2 else 0) + (if en then 1 else 0)) ∧
  (∀ rst tick ovf : Bool, wordE rst tick ovf = (if rst then 4 else 0) + (if tick then 2 else 0) + (if ovf then 1 else 0))

/-! ### Reset -/

/-- R28: the values of the reset state. Nothing is said of the two shadow registers, which R28 leaves unspecified. -/
def Obligations.ResetStateHoldsTheResetValues : Prop :=
  let t := State.reset
  t.state = .idle ∧ t.button = .bNone ∧ t.power_on = false ∧ t.channel = .chNone ∧ t.level = 0 ∧ t.db_cnt = 0 ∧
    t.hold_delay = 0 ∧ t.hold_rate = 0 ∧ t.indicator = false ∧ t.req_la = 0 ∧ t.req_lb = 0 ∧ t.useq = .uIdle ∧
    t.sync_en = false ∧ t.live_a = 0 ∧ t.live_b = 0

/-- R99: RESET, and every clock edge with `rst` = 1, gives every register its reset value, whatever it held and whatever the other
inputs are. Nothing is said of the two shadow registers, which become unspecified. -/
def Obligations.ResetLoadsTheResetValues : Prop :=
  ∀ s : State,
    (∃ t, exec .reset s = .next t ∧ t.state = .idle ∧ t.button = .bNone ∧ t.power_on = false ∧ t.channel = .chNone ∧
      t.level = 0 ∧ t.db_cnt = 0 ∧ t.hold_delay = 0 ∧ t.hold_rate = 0 ∧ t.indicator = false ∧ t.req_la = 0 ∧ t.req_lb = 0 ∧
      t.useq = .uIdle ∧ t.sync_en = false ∧ t.live_a = 0 ∧ t.live_b = 0) ∧
    (∀ v : BitVec 8, v.getLsbD 7 = true → applyStimulus (.edge v) s = exec .reset s)

/-- The model's choice (log entry 5) for the two registers a reset leaves unspecified: each takes a free value, a new one at every
reset. R28's words: "a model must treat them as holding no value until U_WRA and U_WRB have written them". -/
def Obligations.ResetLeavesTheShadowsFree : Prop :=
  ∀ s : State, ∃ t, exec .reset s = .next t ∧ t.shadow_a = Config.freeShadowA s.draws ∧
    t.shadow_b = Config.freeShadowB s.draws ∧ s.draws < t.draws

/-! ### The Button State Machine -/

/-- R55, T_IDLE. -/
def Obligations.IdleTickStartsADebounce : Prop :=
  ∀ s : State, s.useq = .uIdle →
    (s.p ≠ 0 → exec .tIdle s = .next { s with state := .debouncing, db_cnt := 0 }) ∧
    (s.p = 0 → exec .tIdle s = .next s)

/-- R56, T_DEBOUNCE: the release test first, then the count; the comparison is of mathematical values. -/
def Obligations.DebounceTickReleasesCommitsOrCounts : Prop :=
  ∀ s : State, s.useq = .uIdle →
    (s.p = 0 → exec .tDebounce s = .next { s with state := .idle, db_cnt := 0 }) ∧
    (s.p ≠ 0 → 10 < s.db_cnt.toNat + 1 →
      exec .tDebounce s = .next { s with state := .buttonPressed, indicator := true, db_cnt := 0 }) ∧
    (s.p ≠ 0 → s.db_cnt.toNat + 1 ≤ 10 →
      exec .tDebounce s = .next { s with db_cnt := BitVec.ofNat 4 (s.db_cnt.toNat + 1) })

/-- R57, T_PRESSED: the sub-operations of the pressed buttons, in the order 0 to 4, which are the rows format P selects; then the
one action case the updated settings select; then `ButtonHeld` with both hold counters 0. -/
def Obligations.PressedTickRunsButtonsThenActionThenHolds : Prop :=
  ∀ s : State, s.useq = .uIdle →
    ∃ (is : List Instr) (a : Instr) (s₁ s₂ : State),
      is = (if s.p.getLsbD 0 then [Instr.btn0] else []) ++ (if s.p.getLsbD 1 then [Instr.btn1] else []) ++
        (if s.p.getLsbD 2 then [Instr.btn2] else []) ++ (if s.p.getLsbD 3 then [Instr.btn3] else []) ++
        (if s.p.getLsbD 4 then [Instr.btn4] else []) ∧
      decode .P s.p.toNat = .ok is ∧
      execAll is s = .next s₁ ∧
      decode .A (wordA s₁.power_on s₁.channel s₁.button) = .ok [a] ∧
      exec a s₁ = .next s₂ ∧
      exec .tPressed s = .next { s₂ with state := .buttonHeld, hold_delay := 0, hold_rate := 0 }

/-- R58, BTN0: turn on; single channel to both; otherwise turn off. -/
def Obligations.ToggleButtonHasThreeCases : Prop :=
  ∀ s : State,
    (s.power_on = false → s.channel = .chNone →
      exec .btn0 s = .next { s with power_on := true, channel := .chBoth, level := 180, button := .bToggleBoth }) ∧
    (s.power_on = true → s.channel = .chWarm ∨ s.channel = .chCool →
      exec .btn0 s = .next { s with channel := .chBoth, button := .bToggleBoth }) ∧
    (¬ (s.power_on = false ∧ s.channel = .chNone) → ¬ (s.power_on = true ∧ (s.channel = .chWarm ∨ s.channel = .chCool)) →
      exec .btn0 s = .next { s with power_on := false, level := 0, channel := .chNone, button := .bToggleBoth })

/-- R59 and R60, BTN1 and BTN2: only `button` and `channel` are written. -/
def Obligations.ChannelButtonsSelectOneChannel : Prop :=
  ∀ s : State,
    exec .btn1 s = .next { s with button := .bCoolOnly, channel := .chCool } ∧
    exec .btn2 s = .next { s with button := .bWarmOnly, channel := .chWarm }

/-- R61 and R62, BTN3 and BTN4, with the arithmetic of R53 written out. -/
def Obligations.AdjustButtonsNeedAChannel : Prop :=
  ∀ s : State,
    (s.channel = .chNone → exec .btn3 s = .next s ∧ exec .btn4 s = .next s) ∧
    (s.channel ≠ .chNone →
      exec .btn3 s = .next { s with level := if s.level = 255 then 255 else s.level + 1, button := .bAdjust } ∧
      exec .btn4 s = .next { s with level := if 1 < s.level.toNat then s.level - 1 else s.level, button := .bAdjust })

/-- R53 (a), (b): the level arithmetic saturates and never wraps. -/
def Obligations.LevelArithmeticSaturates : Prop :=
  ∀ l : Level,
    (satInc l).toNat = min 255 (l.toNat + 1) ∧
    (floorDec l).toNat = (if 1 < l.toNat then l.toNat - 1 else l.toNat)

/-- R63, T_HELD with HELD_RELEASE: the counters are incremented first and compared after; a due repeat is REP_INC where button 3 is
down, else REP_DEC where button 4 is; it runs on the counted state. -/
def Obligations.HeldTickReleasesCountsOrRepeats : Prop :=
  ∀ s : State,
    exec .heldRelease s = .next { s with state := .buttonReleased, hold_delay := 0, hold_rate := 0 } ∧
    (s.useq = .uIdle →
      let d := min 350 (s.hold_delay.toNat + 1)
      let r := min 15 (s.hold_rate.toNat + 1)
      let due := 350 ≤ d ∧ 15 ≤ r ∧ s.channel ≠ .chNone
      let c : State := { s with hold_delay := BitVec.ofNat 9 d, hold_rate := BitVec.ofNat 4 r }
      (s.p = 0 → exec .tHeld s = .next { s with state := .buttonReleased, hold_delay := 0, hold_rate := 0 }) ∧
      (due → s.p.getLsbD 3 = true → ∃ t, exec .repInc c = .next t ∧ exec .tHeld s = .next t) ∧
      (due → s.p.getLsbD 3 = false → s.p.getLsbD 4 = true → ∃ t, exec .repDec c = .next t ∧ exec .tHeld s = .next t) ∧
      (s.p ≠ 0 → ¬ (due ∧ (s.p.getLsbD 3 = true ∨ s.p.getLsbD 4 = true)) → exec .tHeld s = .next c))

/-- R64 and R65, REP_INC and REP_DEC: the new level, `button <- B_Adjust`, the action case those settings select, `hold_rate <- 0`.
-/
def Obligations.RepeatAdjustsActsAndClearsTheRate : Prop :=
  ∀ s : State, s.useq = .uIdle →
    ∃ a, decode .A (wordA s.power_on s.channel .bAdjust) = .ok [a] ∧
      (∃ t, exec a { s with level := if s.level = 255 then 255 else s.level + 1, button := .bAdjust } = .next t ∧
        exec .repInc s = .next { t with hold_rate := 0 }) ∧
      (∃ t, exec a { s with level := if 1 < s.level.toNat then s.level - 1 else s.level, button := .bAdjust } = .next t ∧
        exec .repDec s = .next { t with hold_rate := 0 })

/-- R66, T_RELEASED: unconditional; the port is not read. -/
def Obligations.ReleasedTickGoesIdle : Prop :=
  ∀ s : State, s.useq = .uIdle → exec .tReleased s = .next { s with state := .idle, indicator := false }

/-- R67: in `ButtonHeld` buttons 0, 1 and 2 have no effect of their own. Two ticks that agree on buttons 3 and 4, each with some
button down, do the same. -/
def Obligations.HeldTickIgnoresToggleAndChannelButtons : Prop :=
  ∀ (s t : State) (q : Pressed), s.p ≠ 0 → q ≠ 0 → s.p.getLsbD 3 = q.getLsbD 3 → s.p.getLsbD 4 = q.getLsbD 4 →
    exec .tHeld s = .next t → exec .tHeld { s with p := q } = .next { t with p := q }

/-- R68 (which the spec marks as derived from R55, R56, R57, R63, R66): the successor relation of `state` under ticks is exactly the
one listed, and every state has a successor for every `p`. -/
def Obligations.SuccessorsOfStateAreExactlyTheListed : Prop :=
  (∀ a b : FsmState,
    (∃ (s t : State) (q : Pressed), s.state = a ∧ applyStimulus (.tick q) s = .next t ∧ t.state = b) ↔ b ∈ successors a) ∧
  (∀ (s : State) (q : Pressed), s.useq = .uIdle → ∃ t, applyStimulus (.tick q) s = .next t)

/-- R16, R17, R18, R67: at a tick, `power_on` changes only by button 0 in `ButtonPressed`; `channel` only by buttons 0 to 2 there;
`level` there, or by a held button 3 or 4. -/
def Obligations.TicksChangeSettingsOnlyByTheirButtons : Prop :=
  ∀ (s t : State) (q : Pressed), applyStimulus (.tick q) s = .next t →
    (t.power_on ≠ s.power_on → s.state = .buttonPressed ∧ q.getLsbD 0 = true) ∧
    (t.channel ≠ s.channel →
      s.state = .buttonPressed ∧ (q.getLsbD 0 = true ∨ q.getLsbD 1 = true ∨ q.getLsbD 2 = true)) ∧
    (t.level ≠ s.level →
      s.state = .buttonPressed ∧ (q.getLsbD 0 = true ∨ q.getLsbD 3 = true ∨ q.getLsbD 4 = true) ∨
      s.state = .buttonHeld ∧ (q.getLsbD 3 = true ∨ q.getLsbD 4 = true))

/-- R108 (which the spec derives from R55 to R57): from `Idle`, eleven or fewer pressed ticks leave the machine in `Debouncing` and
a release then returns it to `Idle` with nothing else changed; the twelfth consecutive pressed tick commits, whichever buttons were
down. -/
def Obligations.DebounceNeedsTwelvePressedTicks : Prop :=
  ∀ (s : State) (ps : List Pressed), s.state = .idle → s.useq = .uIdle → (∀ q ∈ ps, q ≠ 0) →
    (1 ≤ ps.length → ps.length ≤ 11 →
      ticks ps s = .next { s with state := .debouncing, db_cnt := BitVec.ofNat 4 (ps.length - 1), p := ps.getLastD 0 } ∧
      ticks (ps ++ [0]) s = .next { s with state := .idle, db_cnt := 0, p := 0 }) ∧
    (ps.length = 12 →
      ticks ps s = .next { s with state := .buttonPressed, indicator := true, db_cnt := 0, p := ps.getLastD 0 })

/-- R109 (which the spec derives from R63): with a channel active, holding button 3 gives no level change before the 350th held tick
and one every 15 ticks from then on; holding button 4 without button 3 likewise, downwards. -/
def Obligations.TypematicRepeatsAt350AndEvery15 : Prop :=
  ∀ (s : State) (ps : List Pressed), s.state = .buttonHeld → s.useq = .uIdle → s.hold_delay = 0 → s.hold_rate = 0 →
    s.channel ≠ .chNone →
    ((∀ q ∈ ps, q.getLsbD 3 = true) →
      ∃ t, ticks ps s = .next t ∧ t.state = .buttonHeld ∧ t.level = satInc^[repeatsAfter ps.length] s.level) ∧
    ((∀ q ∈ ps, q.getLsbD 3 = false ∧ q.getLsbD 4 = true) →
      ∃ t, ticks ps s = .next t ∧ t.state = .buttonHeld ∧ t.level = floorDec^[repeatsAfter ps.length] s.level)

/-! ### The Action Dispatcher -/

/-- R70 to R76: the seven action cases that issue a request, and what it is. -/
def Obligations.ActionCasesIssueTheirRequest : Prop :=
  ∀ s : State, s.useq = .uIdle →
    exec .actToggleOn s = .next { s with req_la := s.level, req_lb := s.level, useq := .uClr } ∧
    exec .actToggleOff s = .next { s with indicator := false, req_la := s.level, req_lb := s.level, useq := .uClr } ∧
    exec .actCool s = .next { s with req_la := 0, req_lb := s.level, useq := .uClr } ∧
    exec .actWarm s = .next { s with req_la := s.level, req_lb := 0, useq := .uClr } ∧
    exec .actAdjBoth s = .next { s with req_la := s.level, req_lb := s.level, useq := .uClr } ∧
    exec .actAdjCool s = .next { s with req_la := 0, req_lb := s.level, useq := .uClr } ∧
    exec .actAdjWarm s = .next { s with req_la := s.level, req_lb := 0, useq := .uClr }

/-- R77 and R78: the two cases that do nothing. -/
def Obligations.EmptyActionCasesDoNothing : Prop :=
  ∀ s : State, exec .actAdjNone s = .next s ∧ exec .actNone s = .next s

/-- R69: `action()` runs exactly the case its dispatch word selects; it writes no setting, only the request latch and, in the
toggle-off case, the indicator; and what it requests is a function of the four settings alone. -/
def Obligations.ActionIsAFunctionOfTheSettings : Prop :=
  (∀ s : State, ∃ a, decode .A (wordA s.power_on s.channel s.button) = .ok [a] ∧ action s = exec a s) ∧
  (∀ s t : State, action s = .next t →
    ∃ la lb u ind, t = { s with req_la := la, req_lb := lb, useq := u, indicator := ind } ∧
      (ind = s.indicator ∨ ind = false ∧ s.button = .bToggleBoth ∧ s.power_on = false)) ∧
  (∀ s s' t t' : State, s.button = s'.button → s.power_on = s'.power_on → s.channel = s'.channel → s.level = s'.level →
    s.useq = .uIdle → s'.useq = .uIdle → action s = .next t → action s' = .next t' →
    t.useq = t'.useq ∧ (t.useq = .uClr → t.req_la = t'.req_la ∧ t.req_lb = t'.req_lb))

/-! ### The Brightness Engine -/

/-- R79, BSET: every pair of levels is latched when the sequencer is idle, and the four micro-operations then put its targets into
the shadow pair; a BSET while the sequencer is busy is refused (U4). -/
def Obligations.RequestIsLatchedWhenTheSequencerIsIdle : Prop :=
  ∀ (s : State) (la lb : Level),
    (s.useq = .uIdle →
      exec (.bset la lb) s = .next { s with req_la := la, req_lb := lb, useq := .uClr } ∧
      applyAll [.uop, .uop, .uop, .uop] { s with req_la := la, req_lb := lb, useq := .uClr } =
        .next { s with req_la := la, req_lb := lb, useq := .uIdle, sync_en := true,
                       shadow_a := memRead .lutA la, shadow_b := memRead .lutB lb }) ∧
    (s.useq ≠ .uIdle → exec (.bset la lb) s = .refused .requestWhileUpdating)

/-- R81, R82, R83, R84, R88: the micro-operations and the idle step. -/
def Obligations.MicroOperationsWriteTheirRegisters : Prop :=
  ∀ s : State,
    exec .uClr s = .next { s with sync_en := false, useq := .uWra } ∧
    exec .uWra s = .next { s with shadow_a := memRead .lutA s.req_la, useq := .uWrb } ∧
    exec .uWrb s = .next { s with shadow_b := memRead .lutB s.req_lb, useq := .uSet } ∧
    exec .uSet s = .next { s with sync_en := true, useq := .uIdle } ∧
    exec .uIdle s = .next s

/-- R85, COMMIT and COMMIT_NOP: an overflow copies both shadow registers or nothing, by `sync_en`, which it keeps (R87). -/
def Obligations.OverflowCommitsBothOrNothing : Prop :=
  ∀ s : State,
    exec .commit s = .next { s with live_a := s.shadow_a, live_b := s.shadow_b } ∧
    exec .commitNop s = .next s ∧
    (s.sync_en = true → applyStimulus .ovf s = .next { s with live_a := s.shadow_a, live_b := s.shadow_b }) ∧
    (s.sync_en = false → applyStimulus .ovf s = .next s)

/-- R89 (which the spec derives from R79 to R85): after a request, its four micro-operations and one overflow, the outputs are the
two table entries, whatever the block did before; and the mapping is monotone in each argument. -/
def Obligations.RequestReachesTheOutputs : Prop :=
  (∀ (s : State) (la lb : Level), s.useq = .uIdle →
    ∃ t, andThen (exec (.bset la lb) s) (applyAll [.uop, .uop, .uop, .uop, .ovf]) = .next t ∧
      t.cmp_a = LUT_A la ∧ t.cmp_b = LUT_B lb) ∧
  (∀ i j : Level, i.toNat ≤ j.toNat → (LUT_A i).toNat ≤ (LUT_A j).toNat ∧ (LUT_B i).toNat ≤ (LUT_B j).toNat)

/-- R80, R40: the sequence U_CLR, U_WRA, U_WRB, U_SET of one request with any number of overflows before, between and after its
micro-operations. Overflows before U_CLR commit the previous pair if the flag is up; overflows from U_CLR to U_SET copy nothing;
overflows after U_SET commit the new pair. -/
def Obligations.ProtocolHidesHalfWrittenPairs : Prop :=
  ∀ (s : State) (n₀ n₁ n₂ n₃ n₄ : Nat), s.useq = .uClr →
    let ovfs (n : Nat) : List Stimulus := List.replicate n .ovf
    let before : Target × Target := if s.sync_en = true ∧ 0 < n₀ then (s.shadow_a, s.shadow_b) else (s.live_a, s.live_b)
    let after : Target × Target := if 0 < n₄ then targets s.req_la s.req_lb else before
    applyAll (ovfs n₀ ++ [.uop] ++ ovfs n₁ ++ [.uop] ++ ovfs n₂ ++ [.uop] ++ ovfs n₃ ++ [.uop] ++ ovfs n₄) s =
      .next { s with useq := .uIdle, sync_en := true, shadow_a := LUT_A s.req_la, shadow_b := LUT_B s.req_lb,
                     live_a := after.1, live_b := after.2 }

/-- R31 and R32: each table is non-decreasing, no entry exceeds 4095, and the two tops are 4095 and 2395 in one of the two
assignments. -/
def Obligations.TablesMeetTheirConstraints : Prop :=
  (∀ i : Level, i.toNat < 255 → (LUT_A i).toNat ≤ (LUT_A (i + 1)).toNat ∧ (LUT_B i).toNat ≤ (LUT_B (i + 1)).toNat) ∧
  (∀ i : Level, (LUT_A i).toNat ≤ 4095 ∧ (LUT_B i).toNat ≤ 4095) ∧
  (LUT_A 255 = 4095 ∧ LUT_B 255 = 2395 ∨ LUT_A 255 = 2395 ∧ LUT_B 255 = 4095)

/-! ### Whole-machine rules -/

/-- R13: only the TICK agent writes the settings record. The Action Dispatcher and the Brightness Engine never do, nor does a
sequencer step, an overflow, or a clock edge with neither tick nor reset. -/
def Obligations.OnlyTicksWriteTheSettings : Prop :=
  (∀ (i : Instr) (s t : State), i.format = .A ∨ i.format = .B ∨ i.format = .U ∨ i.format = .V →
    exec i s = .next t → t.settings = s.settings) ∧
  (∀ (x : Stimulus) (s t : State),
    x = .uop ∨ x = .ovf ∨ (∃ v : BitVec 8, x = .edge v ∧ v.getLsbD 7 = false ∧ v.getLsbD 6 = false) →
    applyStimulus x s = .next t → t.settings = s.settings)

/-- R22: the indicator is set by T_DEBOUNCE when it commits, cleared by T_RELEASED and by ACT_TOGGLE_OFF (alone, or inside a
T_PRESSED that ends switched off), and written by nothing else but RESET. -/
def Obligations.IndicatorHasItsThreeWriters : Prop :=
  (∀ (i : Instr) (s t : State), exec i s = .next t → t.indicator ≠ s.indicator →
    (i = .tDebounce ∧ t.indicator = true ∧ t.state = .buttonPressed) ∨
    (i = .tReleased ∧ t.indicator = false) ∨
    (i = .actToggleOff ∧ t.indicator = false) ∨
    (i = .tPressed ∧ t.indicator = false ∧ t.button = .bToggleBoth ∧ t.power_on = false) ∨
    i = .reset) ∧
  (∀ s t : State, s.state = .debouncing → exec .tDebounce s = .next t → t.state = .buttonPressed → t.indicator = true) ∧
  (∀ s t : State, exec .tReleased s = .next t → t.indicator = false) ∧
  (∀ s t : State, exec .actToggleOff s = .next t → t.indicator = false)

/-- R24, R25, R26: who writes the flag, the shadow registers and the live registers, RESET apart. The live registers are written
only by COMMIT, both in one step. -/
def Obligations.BrightnessRegistersHaveTheirWriters : Prop :=
  ∀ (i : Instr) (s t : State), exec i s = .next t → i ≠ .reset →
    (t.sync_en ≠ s.sync_en → i = .uClr ∧ t.sync_en = false ∨ i = .uSet ∧ t.sync_en = true) ∧
    (t.shadow_a ≠ s.shadow_a → i = .uWra) ∧
    (t.shadow_b ≠ s.shadow_b → i = .uWrb) ∧
    (t.live_a ≠ s.live_a ∨ t.live_b ≠ s.live_b →
      i = .commit ∧ t.live_a = s.shadow_a ∧ t.live_b = s.shadow_b)

/-- R57, R63 to R65, R69, R78, R79, R102: a tick issues a request only from `ButtonPressed` with a recognised action, or from
`ButtonHeld` at a due repeat of button 3 or 4; so none before the first T_PRESSED after a reset. -/
def Obligations.RequestsComeOnlyFromPressesAndRepeats : Prop :=
  ∀ (s t : State) (q : Pressed), applyStimulus (.tick q) s = .next t → t.useq ≠ .uIdle →
    t.useq = .uClr ∧
    (s.state = .buttonPressed ∧ t.button ≠ .bNone ∨
      s.state = .buttonHeld ∧ 349 ≤ s.hold_delay.toNat ∧ 14 ≤ s.hold_rate.toNat ∧ s.channel ≠ .chNone ∧
        (q.getLsbD 3 = true ∨ q.getLsbD 4 = true))

/-- The BSM reads no register of the PWM update path: a tick does the same whatever the flag, the shadow and the live registers
hold, and leaves them alone (R40, R89, R92 (2)). -/
def Obligations.TicksIgnoreTheBrightnessRegisters : Prop :=
  ∀ (s t : State) (q : Pressed) (sy : Bool) (sa sb a b : Target), applyStimulus (.tick q) s = .next t →
    applyStimulus (.tick q) { s with sync_en := sy, shadow_a := sa, shadow_b := sb, live_a := a, live_b := b } =
      .next { t with sync_en := sy, shadow_a := sa, shadow_b := sb, live_a := a, live_b := b }

/-- R104, U4: while the sequencer is busy no tick occurs: each transition function, a TICK and a clock edge with a tick are refused,
and so is each action case that issues a request, and a repeat that has a channel to adjust (R79). -/
def Obligations.TicksWhileUpdatingAreRefused : Prop :=
  ∀ s : State, s.useq ≠ .uIdle →
    (∀ i : Instr, i.format = .S → exec i s = .refused .tickWhileUpdating) ∧
    (∀ q, applyStimulus (.tick q) s = .refused .tickWhileUpdating) ∧
    (∀ v : BitVec 8, v.getLsbD 7 = false → v.getLsbD 6 = true → applyStimulus (.edge v) s = .refused .tickWhileUpdating) ∧
    (∀ i ∈ [Instr.actToggleOn, .actToggleOff, .actCool, .actWarm, .actAdjBoth, .actAdjCool, .actAdjWarm],
      exec i s = .refused .requestWhileUpdating) ∧
    (s.channel ≠ .chNone →
      exec .repInc s = .refused .requestWhileUpdating ∧ exec .repDec s = .refused .requestWhileUpdating)

/-- R104, U4, R52, R90, R91, R6: a stimulus has a next state exactly where it is admissible. EVERY tick needs an idle sequencer, also
one that would issue no request (R104, U4; log entry 12), and a UOP a busy one (R52; log entry 13); where there is no next state, the
reason is one of these two, never a fault and never a reserved code. -/
def Obligations.ExactlyTheAdmissibleStimuliHaveANextState : Prop :=
  ∀ (x : Stimulus) (s : State),
    ((∃ t, applyStimulus x s = .next t) ↔ Admissible x s) ∧
    (¬ Admissible x s →
      applyStimulus x s = .refused .tickWhileUpdating ∧ x ≠ .uop ∨ applyStimulus x s = .refused .uopNotAllowed ∧ x = .uop)

/-- R92 (1) to (3), R107, R52, R10: what one clock edge does with the input vector `v` = `{rst, tick, pwm_ovf, btn_n[4:0]}`, bit 7
`rst`, bit 6 `tick`, bit 5 `pwm_ovf`, bits 4:0 the active-low buttons. `rst` wins. A tick takes the complement of the button bits, and
a tick and an overflow at one edge both happen, and commute. An overflow is ordered before a micro-operation. Without an event a busy
sequencer performs its micro-operation and an idle one does nothing. -/
def Obligations.EdgeRunsItsEventsInOrder : Prop :=
  ∀ (v : BitVec 8) (s : State),
    let rst := v.getLsbD 7
    let tick := v.getLsbD 6
    let ovf := v.getLsbD 5
    let p : Pressed := ~~~ (v.extractLsb' 0 5)
    (rst = true → applyStimulus (.edge v) s = applyStimulus .reset s) ∧
    (rst = false → tick = true → ovf = false → applyStimulus (.edge v) s = applyStimulus (.tick p) s) ∧
    (rst = false → tick = true → ovf = true →
      applyStimulus (.edge v) s = applyAll [.tick p, .ovf] s ∧ applyStimulus (.edge v) s = applyAll [.ovf, .tick p] s) ∧
    (rst = false → tick = false → ovf = true → s.useq ≠ .uIdle → applyStimulus (.edge v) s = applyAll [.ovf, .uop] s) ∧
    (rst = false → tick = false → ovf = true → s.useq = .uIdle → applyStimulus (.edge v) s = applyStimulus .ovf s) ∧
    (rst = false → tick = false → ovf = false → s.useq ≠ .uIdle → applyStimulus (.edge v) s = applyStimulus .uop s) ∧
    (rst = false → tick = false → ovf = false → s.useq = .uIdle → applyStimulus (.edge v) s = .next s)

/-- R52, R10, R45: the stimulus bytes of the trace notation. `0x40 | (~p & 0x1F)` is `TICK p` for every mask, bit `i` low meaning
button `i` pressed; 0x9F is RESET; 0x3F an overflow, with the sequencer's micro-operation after it if it is busy; 0x1F and 0x00 no
event. -/
def Obligations.StimulusBytesOfTheSpec : Prop :=
  (∀ (p : Pressed) (s : State), applyStimulus (.edge (0x40#8 ||| (~~~ p).setWidth 8)) s = applyStimulus (.tick p) s) ∧
  (∀ (p : Pressed) (i : Nat), i < 5 → (p.getLsbD i = true ↔ (0x40#8 ||| (~~~ p).setWidth 8).getLsbD i = false)) ∧
  (∀ s : State,
    applyStimulus (.edge 0x9F) s = applyStimulus .reset s ∧
    (s.useq = .uIdle → applyStimulus (.edge 0x3F) s = applyStimulus .ovf s) ∧
    (s.useq ≠ .uIdle → applyStimulus (.edge 0x3F) s = applyAll [.ovf, .uop] s) ∧
    (s.useq = .uIdle → applyStimulus (.edge 0x1F) s = .next s ∧ applyStimulus (.edge 0x00) s = .next s) ∧
    (s.useq ≠ .uIdle → applyStimulus (.edge 0x1F) s = applyStimulus .uop s)) ∧
  (∀ p : Pressed, encodeStimulus (.tick p) = some (0x40#8 ||| (~~~ p).setWidth 8)) ∧
  encodeStimulus .reset = some 0x9F ∧ encodeStimulus .ovf = some 0x3F ∧ encodeStimulus .uop = .none

/-- R107: the cycle-level schedule of one request. Edge 0 is the tick that issues it; edges 1 to 4, with no tick and no reset,
perform its four micro-operations whatever `pwm_ovf` and the buttons are; an overflow at edge 1 still commits the previous pair, one
at edges 2 to 4 copies nothing, and one at edge 5 commits the new pair. -/
def Obligations.RequestTakesFourEdges : Prop :=
  ∀ (s t₀ : State) (q : Pressed) (v₁ v₂ v₃ v₄ v₅ : BitVec 8),
    applyStimulus (.tick q) s = .next t₀ → t₀.useq = .uClr →
    (∀ v ∈ [v₁, v₂, v₃, v₄, v₅], v.getLsbD 7 = false ∧ v.getLsbD 6 = false) → v₅.getLsbD 5 = true →
    ∃ t₁ t₂ t₃ t₄ t₅,
      applyStimulus (.edge v₁) t₀ = .next t₁ ∧ t₁.useq = .uWra ∧ t₁.sync_en = false ∧
      ((t₁.live_a, t₁.live_b) =
        if v₁.getLsbD 5 = true ∧ s.sync_en = true then (s.shadow_a, s.shadow_b) else (s.live_a, s.live_b)) ∧
      applyStimulus (.edge v₂) t₁ = .next t₂ ∧ t₂.useq = .uWrb ∧ t₂.shadow_a = LUT_A t₀.req_la ∧
      applyStimulus (.edge v₃) t₂ = .next t₃ ∧ t₃.useq = .uSet ∧ t₃.shadow_b = LUT_B t₀.req_lb ∧
      applyStimulus (.edge v₄) t₃ = .next t₄ ∧ t₄.useq = .uIdle ∧ t₄.sync_en = true ∧
      t₄.live_a = t₁.live_a ∧ t₄.live_b = t₁.live_b ∧
      applyStimulus (.edge v₅) t₄ = .next t₅ ∧ t₅.live_a = LUT_A t₀.req_la ∧ t₅.live_b = LUT_B t₀.req_lb

/-! ### Invariants -/

/-- The reset state meets the invariants (R19, R20, R21, R41, R86). -/
def Obligations.ResetStateMeetsTheInvariants : Prop :=
  SettingsInv State.reset ∧ CountersInv State.reset ∧ FlagInv State.reset ∧ PairingInv .fresh State.reset

/-- R19 (a), (b), in the forms the spec derives from R57 to R65 and R28: every step keeps the invariants of the settings record. -/
def Obligations.StepKeepsTheSettingsInvariant : Prop :=
  ∀ s t : State, SettingsInv s → step s = .next t → SettingsInv t

/-- R20, R21: every step keeps the counters in range and 0 outside their states. -/
def Obligations.StepKeepsTheCounterInvariant : Prop :=
  ∀ s t : State, CountersInv s → step s = .next t → CountersInv t

/-- R103, R41: every step keeps the flag down from U_CLR to U_SET, and a step that changes a shadow register, RESET apart, finds the
flag down. -/
def Obligations.ShadowsAreWrittenOnlyWhileTheFlagIsDown : Prop :=
  ∀ s t : State, FlagInv s → step s = .next t →
    FlagInv t ∧
    (t.shadow_a ≠ s.shadow_a ∨ t.shadow_b ≠ s.shadow_b →
      s.sync_en = false ∨ s.nextStimulus = .reset ∨ ∃ v : BitVec 8, s.nextStimulus = .edge v ∧ v.getLsbD 7 = true)

/-- R86 (which the spec derives from R79 to R85 and R28): every step keeps the pairing property, whatever the stimulus, with the
history of requests (computed beside the run, log entry 24) updated by what the step did. -/
def Obligations.StepKeepsThePairing : Prop :=
  ∀ (h : History) (s t : State), PairingInv h s → step s = .next t → PairingInv (h.after s.nextStimulus s t) t

/-- R86 (derived, as above): in every run from reset that the spec gives a meaning, the shadow pair while the flag is up, and the
live pair at every moment, are each the target pair of ONE request: the one armed last, the one committed last (or the reset pair).
The history of requests is the model's own reckoning beside the run, no state of the machine (log entry 24). -/
def Obligations.EveryRunFromResetKeepsThePairing : Prop :=
  ∀ (xs : List Stimulus) (t : State), applyAll xs State.reset = .next t →
    PairingInv (History.along xs State.reset .fresh) t
end

