-- ==== Sys2Proof/Laws/Decode.lean ====
section
/-!
SUPPORT. What the decoder answers on the dispatch words the machine makes: each names one operation.
-/

namespace Sys2Proof

/-- The transition function of a value of `state` (R54). -/
def FsmState.op : FsmState → Instr
  | .idle => .tIdle
  | .debouncing => .tDebounce
  | .buttonPressed => .tPressed
  | .buttonHeld => .tHeld
  | .buttonReleased => .tReleased

/-- The sequencer step of a value of `useq` (R46). -/
def Useq.op : Useq → Instr
  | .uIdle => .uIdle
  | .uClr => .uClr
  | .uWra => .uWra
  | .uWrb => .uWrb
  | .uSet => .uSet

/-- The action case the settings select (R69). -/
def actionOp (power_on : Bool) (channel : Channel) (button : ButtonAction) : Instr :=
  match button, channel with
  | .bNone, _ => .actNone
  | .bWarmOnly, _ => .actWarm
  | .bCoolOnly, _ => .actCool
  | .bToggleBoth, _ => if power_on then .actToggleOn else .actToggleOff
  | .bAdjust, .chNone => .actAdjNone
  | .bAdjust, .chWarm => .actAdjWarm
  | .bAdjust, .chCool => .actAdjCool
  | .bAdjust, .chBoth => .actAdjBoth

@[simp] theorem decode_state (x : FsmState) : decode .S x.code = .ok [x.op] := by cases x <;> rfl

@[simp] theorem decode_useq (x : Useq) : decode .U x.code = .ok [x.op] := by cases x <;> rfl

@[simp] theorem decode_ovf (b : Bool) : decode .V (wordV true b) = .ok [if b then .commit else .commitNop] := by
  cases b <;> rfl

@[simp] theorem decode_rst : decode .E (wordE true false false) = .ok [.reset] := rfl

@[simp] theorem decode_action (pw : Bool) (c : Channel) (b : ButtonAction) :
    decode .A (wordA pw c b) = .ok [actionOp pw c b] := by
  cases pw <;> cases c <;> cases b <;> rfl

/-- The fields of a stimulus byte, bit by bit (R52). -/
theorem byteRst_eq (v : BitVec 8) : byteRst v = v.getLsbD 7 := rfl

theorem byteTick_eq (v : BitVec 8) : byteTick v = v.getLsbD 6 := rfl

theorem byteOvf_eq (v : BitVec 8) : byteOvf v = v.getLsbD 5 := rfl

theorem bytePressed_eq (v : BitVec 8) : bytePressed v = ~~~ (v.extractLsb' 0 5) := rfl

/-- The byte of `TICK p` has `tick` set, `rst` and `pwm_ovf` clear, and shows `p` through its active-low bits (R10, R52). -/
theorem tickByte_fields (p : Pressed) :
    byteRst (0x40#8 ||| (~~~ p).setWidth 8) = false ∧ byteTick (0x40#8 ||| (~~~ p).setWidth 8) = true ∧
      byteOvf (0x40#8 ||| (~~~ p).setWidth 8) = false ∧ bytePressed (0x40#8 ||| (~~~ p).setWidth 8) = p := by
  revert p; decide

end Sys2Proof
end

