-- ==== Sys2Proof/Laws/State.lean ====
section
/-!
SUPPORT. What each named update of the state does to each field, so that no proof unfolds an update. All hold by rfl.
-/

namespace Sys2Proof.Machine.State

section goto
variable (s : State) (x : FsmState)
@[simp] theorem goto_state : (s.goto x).state = x := rfl
@[simp] theorem goto_button : (s.goto x).button = s.button := rfl
@[simp] theorem goto_power_on : (s.goto x).power_on = s.power_on := rfl
@[simp] theorem goto_channel : (s.goto x).channel = s.channel := rfl
@[simp] theorem goto_level : (s.goto x).level = s.level := rfl
@[simp] theorem goto_db_cnt : (s.goto x).db_cnt = s.db_cnt := rfl
@[simp] theorem goto_hold_delay : (s.goto x).hold_delay = s.hold_delay := rfl
@[simp] theorem goto_hold_rate : (s.goto x).hold_rate = s.hold_rate := rfl
@[simp] theorem goto_indicator : (s.goto x).indicator = s.indicator := rfl
@[simp] theorem goto_req_la : (s.goto x).req_la = s.req_la := rfl
@[simp] theorem goto_req_lb : (s.goto x).req_lb = s.req_lb := rfl
@[simp] theorem goto_useq : (s.goto x).useq = s.useq := rfl
@[simp] theorem goto_sync_en : (s.goto x).sync_en = s.sync_en := rfl
@[simp] theorem goto_shadow_a : (s.goto x).shadow_a = s.shadow_a := rfl
@[simp] theorem goto_shadow_b : (s.goto x).shadow_b = s.shadow_b := rfl
@[simp] theorem goto_live_a : (s.goto x).live_a = s.live_a := rfl
@[simp] theorem goto_live_b : (s.goto x).live_b = s.live_b := rfl
@[simp] theorem goto_p : (s.goto x).p = s.p := rfl
@[simp] theorem goto_stimuli : (s.goto x).stimuli = s.stimuli := rfl
@[simp] theorem goto_draws : (s.goto x).draws = s.draws := rfl
end goto

section setButton
variable (s : State) (x : ButtonAction)
@[simp] theorem setButton_state : (s.setButton x).state = s.state := rfl
@[simp] theorem setButton_button : (s.setButton x).button = x := rfl
@[simp] theorem setButton_power_on : (s.setButton x).power_on = s.power_on := rfl
@[simp] theorem setButton_channel : (s.setButton x).channel = s.channel := rfl
@[simp] theorem setButton_level : (s.setButton x).level = s.level := rfl
@[simp] theorem setButton_db_cnt : (s.setButton x).db_cnt = s.db_cnt := rfl
@[simp] theorem setButton_hold_delay : (s.setButton x).hold_delay = s.hold_delay := rfl
@[simp] theorem setButton_hold_rate : (s.setButton x).hold_rate = s.hold_rate := rfl
@[simp] theorem setButton_indicator : (s.setButton x).indicator = s.indicator := rfl
@[simp] theorem setButton_req_la : (s.setButton x).req_la = s.req_la := rfl
@[simp] theorem setButton_req_lb : (s.setButton x).req_lb = s.req_lb := rfl
@[simp] theorem setButton_useq : (s.setButton x).useq = s.useq := rfl
@[simp] theorem setButton_sync_en : (s.setButton x).sync_en = s.sync_en := rfl
@[simp] theorem setButton_shadow_a : (s.setButton x).shadow_a = s.shadow_a := rfl
@[simp] theorem setButton_shadow_b : (s.setButton x).shadow_b = s.shadow_b := rfl
@[simp] theorem setButton_live_a : (s.setButton x).live_a = s.live_a := rfl
@[simp] theorem setButton_live_b : (s.setButton x).live_b = s.live_b := rfl
@[simp] theorem setButton_p : (s.setButton x).p = s.p := rfl
@[simp] theorem setButton_stimuli : (s.setButton x).stimuli = s.stimuli := rfl
@[simp] theorem setButton_draws : (s.setButton x).draws = s.draws := rfl
end setButton

section setPower
variable (s : State) (x : Bool)
@[simp] theorem setPower_state : (s.setPower x).state = s.state := rfl
@[simp] theorem setPower_button : (s.setPower x).button = s.button := rfl
@[simp] theorem setPower_power_on : (s.setPower x).power_on = x := rfl
@[simp] theorem setPower_channel : (s.setPower x).channel = s.channel := rfl
@[simp] theorem setPower_level : (s.setPower x).level = s.level := rfl
@[simp] theorem setPower_db_cnt : (s.setPower x).db_cnt = s.db_cnt := rfl
@[simp] theorem setPower_hold_delay : (s.setPower x).hold_delay = s.hold_delay := rfl
@[simp] theorem setPower_hold_rate : (s.setPower x).hold_rate = s.hold_rate := rfl
@[simp] theorem setPower_indicator : (s.setPower x).indicator = s.indicator := rfl
@[simp] theorem setPower_req_la : (s.setPower x).req_la = s.req_la := rfl
@[simp] theorem setPower_req_lb : (s.setPower x).req_lb = s.req_lb := rfl
@[simp] theorem setPower_useq : (s.setPower x).useq = s.useq := rfl
@[simp] theorem setPower_sync_en : (s.setPower x).sync_en = s.sync_en := rfl
@[simp] theorem setPower_shadow_a : (s.setPower x).shadow_a = s.shadow_a := rfl
@[simp] theorem setPower_shadow_b : (s.setPower x).shadow_b = s.shadow_b := rfl
@[simp] theorem setPower_live_a : (s.setPower x).live_a = s.live_a := rfl
@[simp] theorem setPower_live_b : (s.setPower x).live_b = s.live_b := rfl
@[simp] theorem setPower_p : (s.setPower x).p = s.p := rfl
@[simp] theorem setPower_stimuli : (s.setPower x).stimuli = s.stimuli := rfl
@[simp] theorem setPower_draws : (s.setPower x).draws = s.draws := rfl
end setPower

section setChannel
variable (s : State) (x : Channel)
@[simp] theorem setChannel_state : (s.setChannel x).state = s.state := rfl
@[simp] theorem setChannel_button : (s.setChannel x).button = s.button := rfl
@[simp] theorem setChannel_power_on : (s.setChannel x).power_on = s.power_on := rfl
@[simp] theorem setChannel_channel : (s.setChannel x).channel = x := rfl
@[simp] theorem setChannel_level : (s.setChannel x).level = s.level := rfl
@[simp] theorem setChannel_db_cnt : (s.setChannel x).db_cnt = s.db_cnt := rfl
@[simp] theorem setChannel_hold_delay : (s.setChannel x).hold_delay = s.hold_delay := rfl
@[simp] theorem setChannel_hold_rate : (s.setChannel x).hold_rate = s.hold_rate := rfl
@[simp] theorem setChannel_indicator : (s.setChannel x).indicator = s.indicator := rfl
@[simp] theorem setChannel_req_la : (s.setChannel x).req_la = s.req_la := rfl
@[simp] theorem setChannel_req_lb : (s.setChannel x).req_lb = s.req_lb := rfl
@[simp] theorem setChannel_useq : (s.setChannel x).useq = s.useq := rfl
@[simp] theorem setChannel_sync_en : (s.setChannel x).sync_en = s.sync_en := rfl
@[simp] theorem setChannel_shadow_a : (s.setChannel x).shadow_a = s.shadow_a := rfl
@[simp] theorem setChannel_shadow_b : (s.setChannel x).shadow_b = s.shadow_b := rfl
@[simp] theorem setChannel_live_a : (s.setChannel x).live_a = s.live_a := rfl
@[simp] theorem setChannel_live_b : (s.setChannel x).live_b = s.live_b := rfl
@[simp] theorem setChannel_p : (s.setChannel x).p = s.p := rfl
@[simp] theorem setChannel_stimuli : (s.setChannel x).stimuli = s.stimuli := rfl
@[simp] theorem setChannel_draws : (s.setChannel x).draws = s.draws := rfl
end setChannel

section setLevel
variable (s : State) (x : Level)
@[simp] theorem setLevel_state : (s.setLevel x).state = s.state := rfl
@[simp] theorem setLevel_button : (s.setLevel x).button = s.button := rfl
@[simp] theorem setLevel_power_on : (s.setLevel x).power_on = s.power_on := rfl
@[simp] theorem setLevel_channel : (s.setLevel x).channel = s.channel := rfl
@[simp] theorem setLevel_level : (s.setLevel x).level = x := rfl
@[simp] theorem setLevel_db_cnt : (s.setLevel x).db_cnt = s.db_cnt := rfl
@[simp] theorem setLevel_hold_delay : (s.setLevel x).hold_delay = s.hold_delay := rfl
@[simp] theorem setLevel_hold_rate : (s.setLevel x).hold_rate = s.hold_rate := rfl
@[simp] theorem setLevel_indicator : (s.setLevel x).indicator = s.indicator := rfl
@[simp] theorem setLevel_req_la : (s.setLevel x).req_la = s.req_la := rfl
@[simp] theorem setLevel_req_lb : (s.setLevel x).req_lb = s.req_lb := rfl
@[simp] theorem setLevel_useq : (s.setLevel x).useq = s.useq := rfl
@[simp] theorem setLevel_sync_en : (s.setLevel x).sync_en = s.sync_en := rfl
@[simp] theorem setLevel_shadow_a : (s.setLevel x).shadow_a = s.shadow_a := rfl
@[simp] theorem setLevel_shadow_b : (s.setLevel x).shadow_b = s.shadow_b := rfl
@[simp] theorem setLevel_live_a : (s.setLevel x).live_a = s.live_a := rfl
@[simp] theorem setLevel_live_b : (s.setLevel x).live_b = s.live_b := rfl
@[simp] theorem setLevel_p : (s.setLevel x).p = s.p := rfl
@[simp] theorem setLevel_stimuli : (s.setLevel x).stimuli = s.stimuli := rfl
@[simp] theorem setLevel_draws : (s.setLevel x).draws = s.draws := rfl
end setLevel

section setDbCnt
variable (s : State) (n : Nat)
@[simp] theorem setDbCnt_state : (s.setDbCnt n).state = s.state := rfl
@[simp] theorem setDbCnt_button : (s.setDbCnt n).button = s.button := rfl
@[simp] theorem setDbCnt_power_on : (s.setDbCnt n).power_on = s.power_on := rfl
@[simp] theorem setDbCnt_channel : (s.setDbCnt n).channel = s.channel := rfl
@[simp] theorem setDbCnt_level : (s.setDbCnt n).level = s.level := rfl
@[simp] theorem setDbCnt_db_cnt : (s.setDbCnt n).db_cnt = BitVec.ofNat 4 n := rfl
@[simp] theorem setDbCnt_hold_delay : (s.setDbCnt n).hold_delay = s.hold_delay := rfl
@[simp] theorem setDbCnt_hold_rate : (s.setDbCnt n).hold_rate = s.hold_rate := rfl
@[simp] theorem setDbCnt_indicator : (s.setDbCnt n).indicator = s.indicator := rfl
@[simp] theorem setDbCnt_req_la : (s.setDbCnt n).req_la = s.req_la := rfl
@[simp] theorem setDbCnt_req_lb : (s.setDbCnt n).req_lb = s.req_lb := rfl
@[simp] theorem setDbCnt_useq : (s.setDbCnt n).useq = s.useq := rfl
@[simp] theorem setDbCnt_sync_en : (s.setDbCnt n).sync_en = s.sync_en := rfl
@[simp] theorem setDbCnt_shadow_a : (s.setDbCnt n).shadow_a = s.shadow_a := rfl
@[simp] theorem setDbCnt_shadow_b : (s.setDbCnt n).shadow_b = s.shadow_b := rfl
@[simp] theorem setDbCnt_live_a : (s.setDbCnt n).live_a = s.live_a := rfl
@[simp] theorem setDbCnt_live_b : (s.setDbCnt n).live_b = s.live_b := rfl
@[simp] theorem setDbCnt_p : (s.setDbCnt n).p = s.p := rfl
@[simp] theorem setDbCnt_stimuli : (s.setDbCnt n).stimuli = s.stimuli := rfl
@[simp] theorem setDbCnt_draws : (s.setDbCnt n).draws = s.draws := rfl
end setDbCnt

section setHoldDelay
variable (s : State) (n : Nat)
@[simp] theorem setHoldDelay_state : (s.setHoldDelay n).state = s.state := rfl
@[simp] theorem setHoldDelay_button : (s.setHoldDelay n).button = s.button := rfl
@[simp] theorem setHoldDelay_power_on : (s.setHoldDelay n).power_on = s.power_on := rfl
@[simp] theorem setHoldDelay_channel : (s.setHoldDelay n).channel = s.channel := rfl
@[simp] theorem setHoldDelay_level : (s.setHoldDelay n).level = s.level := rfl
@[simp] theorem setHoldDelay_db_cnt : (s.setHoldDelay n).db_cnt = s.db_cnt := rfl
@[simp] theorem setHoldDelay_hold_delay : (s.setHoldDelay n).hold_delay = BitVec.ofNat 9 n := rfl
@[simp] theorem setHoldDelay_hold_rate : (s.setHoldDelay n).hold_rate = s.hold_rate := rfl
@[simp] theorem setHoldDelay_indicator : (s.setHoldDelay n).indicator = s.indicator := rfl
@[simp] theorem setHoldDelay_req_la : (s.setHoldDelay n).req_la = s.req_la := rfl
@[simp] theorem setHoldDelay_req_lb : (s.setHoldDelay n).req_lb = s.req_lb := rfl
@[simp] theorem setHoldDelay_useq : (s.setHoldDelay n).useq = s.useq := rfl
@[simp] theorem setHoldDelay_sync_en : (s.setHoldDelay n).sync_en = s.sync_en := rfl
@[simp] theorem setHoldDelay_shadow_a : (s.setHoldDelay n).shadow_a = s.shadow_a := rfl
@[simp] theorem setHoldDelay_shadow_b : (s.setHoldDelay n).shadow_b = s.shadow_b := rfl
@[simp] theorem setHoldDelay_live_a : (s.setHoldDelay n).live_a = s.live_a := rfl
@[simp] theorem setHoldDelay_live_b : (s.setHoldDelay n).live_b = s.live_b := rfl
@[simp] theorem setHoldDelay_p : (s.setHoldDelay n).p = s.p := rfl
@[simp] theorem setHoldDelay_stimuli : (s.setHoldDelay n).stimuli = s.stimuli := rfl
@[simp] theorem setHoldDelay_draws : (s.setHoldDelay n).draws = s.draws := rfl
end setHoldDelay

section setHoldRate
variable (s : State) (n : Nat)
@[simp] theorem setHoldRate_state : (s.setHoldRate n).state = s.state := rfl
@[simp] theorem setHoldRate_button : (s.setHoldRate n).button = s.button := rfl
@[simp] theorem setHoldRate_power_on : (s.setHoldRate n).power_on = s.power_on := rfl
@[simp] theorem setHoldRate_channel : (s.setHoldRate n).channel = s.channel := rfl
@[simp] theorem setHoldRate_level : (s.setHoldRate n).level = s.level := rfl
@[simp] theorem setHoldRate_db_cnt : (s.setHoldRate n).db_cnt = s.db_cnt := rfl
@[simp] theorem setHoldRate_hold_delay : (s.setHoldRate n).hold_delay = s.hold_delay := rfl
@[simp] theorem setHoldRate_hold_rate : (s.setHoldRate n).hold_rate = BitVec.ofNat 4 n := rfl
@[simp] theorem setHoldRate_indicator : (s.setHoldRate n).indicator = s.indicator := rfl
@[simp] theorem setHoldRate_req_la : (s.setHoldRate n).req_la = s.req_la := rfl
@[simp] theorem setHoldRate_req_lb : (s.setHoldRate n).req_lb = s.req_lb := rfl
@[simp] theorem setHoldRate_useq : (s.setHoldRate n).useq = s.useq := rfl
@[simp] theorem setHoldRate_sync_en : (s.setHoldRate n).sync_en = s.sync_en := rfl
@[simp] theorem setHoldRate_shadow_a : (s.setHoldRate n).shadow_a = s.shadow_a := rfl
@[simp] theorem setHoldRate_shadow_b : (s.setHoldRate n).shadow_b = s.shadow_b := rfl
@[simp] theorem setHoldRate_live_a : (s.setHoldRate n).live_a = s.live_a := rfl
@[simp] theorem setHoldRate_live_b : (s.setHoldRate n).live_b = s.live_b := rfl
@[simp] theorem setHoldRate_p : (s.setHoldRate n).p = s.p := rfl
@[simp] theorem setHoldRate_stimuli : (s.setHoldRate n).stimuli = s.stimuli := rfl
@[simp] theorem setHoldRate_draws : (s.setHoldRate n).draws = s.draws := rfl
end setHoldRate

section setIndicator
variable (s : State) (x : Bool)
@[simp] theorem setIndicator_state : (s.setIndicator x).state = s.state := rfl
@[simp] theorem setIndicator_button : (s.setIndicator x).button = s.button := rfl
@[simp] theorem setIndicator_power_on : (s.setIndicator x).power_on = s.power_on := rfl
@[simp] theorem setIndicator_channel : (s.setIndicator x).channel = s.channel := rfl
@[simp] theorem setIndicator_level : (s.setIndicator x).level = s.level := rfl
@[simp] theorem setIndicator_db_cnt : (s.setIndicator x).db_cnt = s.db_cnt := rfl
@[simp] theorem setIndicator_hold_delay : (s.setIndicator x).hold_delay = s.hold_delay := rfl
@[simp] theorem setIndicator_hold_rate : (s.setIndicator x).hold_rate = s.hold_rate := rfl
@[simp] theorem setIndicator_indicator : (s.setIndicator x).indicator = x := rfl
@[simp] theorem setIndicator_req_la : (s.setIndicator x).req_la = s.req_la := rfl
@[simp] theorem setIndicator_req_lb : (s.setIndicator x).req_lb = s.req_lb := rfl
@[simp] theorem setIndicator_useq : (s.setIndicator x).useq = s.useq := rfl
@[simp] theorem setIndicator_sync_en : (s.setIndicator x).sync_en = s.sync_en := rfl
@[simp] theorem setIndicator_shadow_a : (s.setIndicator x).shadow_a = s.shadow_a := rfl
@[simp] theorem setIndicator_shadow_b : (s.setIndicator x).shadow_b = s.shadow_b := rfl
@[simp] theorem setIndicator_live_a : (s.setIndicator x).live_a = s.live_a := rfl
@[simp] theorem setIndicator_live_b : (s.setIndicator x).live_b = s.live_b := rfl
@[simp] theorem setIndicator_p : (s.setIndicator x).p = s.p := rfl
@[simp] theorem setIndicator_stimuli : (s.setIndicator x).stimuli = s.stimuli := rfl
@[simp] theorem setIndicator_draws : (s.setIndicator x).draws = s.draws := rfl
end setIndicator

section latchRequest
variable (s : State) (a b : Level)
@[simp] theorem latchRequest_state : (s.latchRequest a b).state = s.state := rfl
@[simp] theorem latchRequest_button : (s.latchRequest a b).button = s.button := rfl
@[simp] theorem latchRequest_power_on : (s.latchRequest a b).power_on = s.power_on := rfl
@[simp] theorem latchRequest_channel : (s.latchRequest a b).channel = s.channel := rfl
@[simp] theorem latchRequest_level : (s.latchRequest a b).level = s.level := rfl
@[simp] theorem latchRequest_db_cnt : (s.latchRequest a b).db_cnt = s.db_cnt := rfl
@[simp] theorem latchRequest_hold_delay : (s.latchRequest a b).hold_delay = s.hold_delay := rfl
@[simp] theorem latchRequest_hold_rate : (s.latchRequest a b).hold_rate = s.hold_rate := rfl
@[simp] theorem latchRequest_indicator : (s.latchRequest a b).indicator = s.indicator := rfl
@[simp] theorem latchRequest_req_la : (s.latchRequest a b).req_la = a := rfl
@[simp] theorem latchRequest_req_lb : (s.latchRequest a b).req_lb = b := rfl
@[simp] theorem latchRequest_useq : (s.latchRequest a b).useq = .uClr := rfl
@[simp] theorem latchRequest_sync_en : (s.latchRequest a b).sync_en = s.sync_en := rfl
@[simp] theorem latchRequest_shadow_a : (s.latchRequest a b).shadow_a = s.shadow_a := rfl
@[simp] theorem latchRequest_shadow_b : (s.latchRequest a b).shadow_b = s.shadow_b := rfl
@[simp] theorem latchRequest_live_a : (s.latchRequest a b).live_a = s.live_a := rfl
@[simp] theorem latchRequest_live_b : (s.latchRequest a b).live_b = s.live_b := rfl
@[simp] theorem latchRequest_p : (s.latchRequest a b).p = s.p := rfl
@[simp] theorem latchRequest_stimuli : (s.latchRequest a b).stimuli = s.stimuli := rfl
@[simp] theorem latchRequest_draws : (s.latchRequest a b).draws = s.draws := rfl
end latchRequest

section setUseq
variable (s : State) (x : Useq)
@[simp] theorem setUseq_state : (s.setUseq x).state = s.state := rfl
@[simp] theorem setUseq_button : (s.setUseq x).button = s.button := rfl
@[simp] theorem setUseq_power_on : (s.setUseq x).power_on = s.power_on := rfl
@[simp] theorem setUseq_channel : (s.setUseq x).channel = s.channel := rfl
@[simp] theorem setUseq_level : (s.setUseq x).level = s.level := rfl
@[simp] theorem setUseq_db_cnt : (s.setUseq x).db_cnt = s.db_cnt := rfl
@[simp] theorem setUseq_hold_delay : (s.setUseq x).hold_delay = s.hold_delay := rfl
@[simp] theorem setUseq_hold_rate : (s.setUseq x).hold_rate = s.hold_rate := rfl
@[simp] theorem setUseq_indicator : (s.setUseq x).indicator = s.indicator := rfl
@[simp] theorem setUseq_req_la : (s.setUseq x).req_la = s.req_la := rfl
@[simp] theorem setUseq_req_lb : (s.setUseq x).req_lb = s.req_lb := rfl
@[simp] theorem setUseq_useq : (s.setUseq x).useq = x := rfl
@[simp] theorem setUseq_sync_en : (s.setUseq x).sync_en = s.sync_en := rfl
@[simp] theorem setUseq_shadow_a : (s.setUseq x).shadow_a = s.shadow_a := rfl
@[simp] theorem setUseq_shadow_b : (s.setUseq x).shadow_b = s.shadow_b := rfl
@[simp] theorem setUseq_live_a : (s.setUseq x).live_a = s.live_a := rfl
@[simp] theorem setUseq_live_b : (s.setUseq x).live_b = s.live_b := rfl
@[simp] theorem setUseq_p : (s.setUseq x).p = s.p := rfl
@[simp] theorem setUseq_stimuli : (s.setUseq x).stimuli = s.stimuli := rfl
@[simp] theorem setUseq_draws : (s.setUseq x).draws = s.draws := rfl
end setUseq

section setSyncEn
variable (s : State) (x : Bool)
@[simp] theorem setSyncEn_state : (s.setSyncEn x).state = s.state := rfl
@[simp] theorem setSyncEn_button : (s.setSyncEn x).button = s.button := rfl
@[simp] theorem setSyncEn_power_on : (s.setSyncEn x).power_on = s.power_on := rfl
@[simp] theorem setSyncEn_channel : (s.setSyncEn x).channel = s.channel := rfl
@[simp] theorem setSyncEn_level : (s.setSyncEn x).level = s.level := rfl
@[simp] theorem setSyncEn_db_cnt : (s.setSyncEn x).db_cnt = s.db_cnt := rfl
@[simp] theorem setSyncEn_hold_delay : (s.setSyncEn x).hold_delay = s.hold_delay := rfl
@[simp] theorem setSyncEn_hold_rate : (s.setSyncEn x).hold_rate = s.hold_rate := rfl
@[simp] theorem setSyncEn_indicator : (s.setSyncEn x).indicator = s.indicator := rfl
@[simp] theorem setSyncEn_req_la : (s.setSyncEn x).req_la = s.req_la := rfl
@[simp] theorem setSyncEn_req_lb : (s.setSyncEn x).req_lb = s.req_lb := rfl
@[simp] theorem setSyncEn_useq : (s.setSyncEn x).useq = s.useq := rfl
@[simp] theorem setSyncEn_sync_en : (s.setSyncEn x).sync_en = x := rfl
@[simp] theorem setSyncEn_shadow_a : (s.setSyncEn x).shadow_a = s.shadow_a := rfl
@[simp] theorem setSyncEn_shadow_b : (s.setSyncEn x).shadow_b = s.shadow_b := rfl
@[simp] theorem setSyncEn_live_a : (s.setSyncEn x).live_a = s.live_a := rfl
@[simp] theorem setSyncEn_live_b : (s.setSyncEn x).live_b = s.live_b := rfl
@[simp] theorem setSyncEn_p : (s.setSyncEn x).p = s.p := rfl
@[simp] theorem setSyncEn_stimuli : (s.setSyncEn x).stimuli = s.stimuli := rfl
@[simp] theorem setSyncEn_draws : (s.setSyncEn x).draws = s.draws := rfl
end setSyncEn

section setShadowA
variable (s : State) (v : Target)
@[simp] theorem setShadowA_state : (s.setShadowA v).state = s.state := rfl
@[simp] theorem setShadowA_button : (s.setShadowA v).button = s.button := rfl
@[simp] theorem setShadowA_power_on : (s.setShadowA v).power_on = s.power_on := rfl
@[simp] theorem setShadowA_channel : (s.setShadowA v).channel = s.channel := rfl
@[simp] theorem setShadowA_level : (s.setShadowA v).level = s.level := rfl
@[simp] theorem setShadowA_db_cnt : (s.setShadowA v).db_cnt = s.db_cnt := rfl
@[simp] theorem setShadowA_hold_delay : (s.setShadowA v).hold_delay = s.hold_delay := rfl
@[simp] theorem setShadowA_hold_rate : (s.setShadowA v).hold_rate = s.hold_rate := rfl
@[simp] theorem setShadowA_indicator : (s.setShadowA v).indicator = s.indicator := rfl
@[simp] theorem setShadowA_req_la : (s.setShadowA v).req_la = s.req_la := rfl
@[simp] theorem setShadowA_req_lb : (s.setShadowA v).req_lb = s.req_lb := rfl
@[simp] theorem setShadowA_useq : (s.setShadowA v).useq = s.useq := rfl
@[simp] theorem setShadowA_sync_en : (s.setShadowA v).sync_en = s.sync_en := rfl
@[simp] theorem setShadowA_shadow_a : (s.setShadowA v).shadow_a = v := rfl
@[simp] theorem setShadowA_shadow_b : (s.setShadowA v).shadow_b = s.shadow_b := rfl
@[simp] theorem setShadowA_live_a : (s.setShadowA v).live_a = s.live_a := rfl
@[simp] theorem setShadowA_live_b : (s.setShadowA v).live_b = s.live_b := rfl
@[simp] theorem setShadowA_p : (s.setShadowA v).p = s.p := rfl
@[simp] theorem setShadowA_stimuli : (s.setShadowA v).stimuli = s.stimuli := rfl
@[simp] theorem setShadowA_draws : (s.setShadowA v).draws = s.draws := rfl
end setShadowA

section setShadowB
variable (s : State) (v : Target)
@[simp] theorem setShadowB_state : (s.setShadowB v).state = s.state := rfl
@[simp] theorem setShadowB_button : (s.setShadowB v).button = s.button := rfl
@[simp] theorem setShadowB_power_on : (s.setShadowB v).power_on = s.power_on := rfl
@[simp] theorem setShadowB_channel : (s.setShadowB v).channel = s.channel := rfl
@[simp] theorem setShadowB_level : (s.setShadowB v).level = s.level := rfl
@[simp] theorem setShadowB_db_cnt : (s.setShadowB v).db_cnt = s.db_cnt := rfl
@[simp] theorem setShadowB_hold_delay : (s.setShadowB v).hold_delay = s.hold_delay := rfl
@[simp] theorem setShadowB_hold_rate : (s.setShadowB v).hold_rate = s.hold_rate := rfl
@[simp] theorem setShadowB_indicator : (s.setShadowB v).indicator = s.indicator := rfl
@[simp] theorem setShadowB_req_la : (s.setShadowB v).req_la = s.req_la := rfl
@[simp] theorem setShadowB_req_lb : (s.setShadowB v).req_lb = s.req_lb := rfl
@[simp] theorem setShadowB_useq : (s.setShadowB v).useq = s.useq := rfl
@[simp] theorem setShadowB_sync_en : (s.setShadowB v).sync_en = s.sync_en := rfl
@[simp] theorem setShadowB_shadow_a : (s.setShadowB v).shadow_a = s.shadow_a := rfl
@[simp] theorem setShadowB_shadow_b : (s.setShadowB v).shadow_b = v := rfl
@[simp] theorem setShadowB_live_a : (s.setShadowB v).live_a = s.live_a := rfl
@[simp] theorem setShadowB_live_b : (s.setShadowB v).live_b = s.live_b := rfl
@[simp] theorem setShadowB_p : (s.setShadowB v).p = s.p := rfl
@[simp] theorem setShadowB_stimuli : (s.setShadowB v).stimuli = s.stimuli := rfl
@[simp] theorem setShadowB_draws : (s.setShadowB v).draws = s.draws := rfl
end setShadowB

section setLive
variable (s : State) (a b : Target)
@[simp] theorem setLive_state : (s.setLive a b).state = s.state := rfl
@[simp] theorem setLive_button : (s.setLive a b).button = s.button := rfl
@[simp] theorem setLive_power_on : (s.setLive a b).power_on = s.power_on := rfl
@[simp] theorem setLive_channel : (s.setLive a b).channel = s.channel := rfl
@[simp] theorem setLive_level : (s.setLive a b).level = s.level := rfl
@[simp] theorem setLive_db_cnt : (s.setLive a b).db_cnt = s.db_cnt := rfl
@[simp] theorem setLive_hold_delay : (s.setLive a b).hold_delay = s.hold_delay := rfl
@[simp] theorem setLive_hold_rate : (s.setLive a b).hold_rate = s.hold_rate := rfl
@[simp] theorem setLive_indicator : (s.setLive a b).indicator = s.indicator := rfl
@[simp] theorem setLive_req_la : (s.setLive a b).req_la = s.req_la := rfl
@[simp] theorem setLive_req_lb : (s.setLive a b).req_lb = s.req_lb := rfl
@[simp] theorem setLive_useq : (s.setLive a b).useq = s.useq := rfl
@[simp] theorem setLive_sync_en : (s.setLive a b).sync_en = s.sync_en := rfl
@[simp] theorem setLive_shadow_a : (s.setLive a b).shadow_a = s.shadow_a := rfl
@[simp] theorem setLive_shadow_b : (s.setLive a b).shadow_b = s.shadow_b := rfl
@[simp] theorem setLive_live_a : (s.setLive a b).live_a = a := rfl
@[simp] theorem setLive_live_b : (s.setLive a b).live_b = b := rfl
@[simp] theorem setLive_p : (s.setLive a b).p = s.p := rfl
@[simp] theorem setLive_stimuli : (s.setLive a b).stimuli = s.stimuli := rfl
@[simp] theorem setLive_draws : (s.setLive a b).draws = s.draws := rfl
end setLive

section samplePort
variable (s : State) (x : Pressed)
@[simp] theorem samplePort_state : (s.samplePort x).state = s.state := rfl
@[simp] theorem samplePort_button : (s.samplePort x).button = s.button := rfl
@[simp] theorem samplePort_power_on : (s.samplePort x).power_on = s.power_on := rfl
@[simp] theorem samplePort_channel : (s.samplePort x).channel = s.channel := rfl
@[simp] theorem samplePort_level : (s.samplePort x).level = s.level := rfl
@[simp] theorem samplePort_db_cnt : (s.samplePort x).db_cnt = s.db_cnt := rfl
@[simp] theorem samplePort_hold_delay : (s.samplePort x).hold_delay = s.hold_delay := rfl
@[simp] theorem samplePort_hold_rate : (s.samplePort x).hold_rate = s.hold_rate := rfl
@[simp] theorem samplePort_indicator : (s.samplePort x).indicator = s.indicator := rfl
@[simp] theorem samplePort_req_la : (s.samplePort x).req_la = s.req_la := rfl
@[simp] theorem samplePort_req_lb : (s.samplePort x).req_lb = s.req_lb := rfl
@[simp] theorem samplePort_useq : (s.samplePort x).useq = s.useq := rfl
@[simp] theorem samplePort_sync_en : (s.samplePort x).sync_en = s.sync_en := rfl
@[simp] theorem samplePort_shadow_a : (s.samplePort x).shadow_a = s.shadow_a := rfl
@[simp] theorem samplePort_shadow_b : (s.samplePort x).shadow_b = s.shadow_b := rfl
@[simp] theorem samplePort_live_a : (s.samplePort x).live_a = s.live_a := rfl
@[simp] theorem samplePort_live_b : (s.samplePort x).live_b = s.live_b := rfl
@[simp] theorem samplePort_p : (s.samplePort x).p = x := rfl
@[simp] theorem samplePort_stimuli : (s.samplePort x).stimuli = s.stimuli := rfl
@[simp] theorem samplePort_draws : (s.samplePort x).draws = s.draws := rfl
end samplePort

section push
variable (s : State) (x : Stimulus)
@[simp] theorem push_state : (s.push x).state = s.state := rfl
@[simp] theorem push_button : (s.push x).button = s.button := rfl
@[simp] theorem push_power_on : (s.push x).power_on = s.power_on := rfl
@[simp] theorem push_channel : (s.push x).channel = s.channel := rfl
@[simp] theorem push_level : (s.push x).level = s.level := rfl
@[simp] theorem push_db_cnt : (s.push x).db_cnt = s.db_cnt := rfl
@[simp] theorem push_hold_delay : (s.push x).hold_delay = s.hold_delay := rfl
@[simp] theorem push_hold_rate : (s.push x).hold_rate = s.hold_rate := rfl
@[simp] theorem push_indicator : (s.push x).indicator = s.indicator := rfl
@[simp] theorem push_req_la : (s.push x).req_la = s.req_la := rfl
@[simp] theorem push_req_lb : (s.push x).req_lb = s.req_lb := rfl
@[simp] theorem push_useq : (s.push x).useq = s.useq := rfl
@[simp] theorem push_sync_en : (s.push x).sync_en = s.sync_en := rfl
@[simp] theorem push_shadow_a : (s.push x).shadow_a = s.shadow_a := rfl
@[simp] theorem push_shadow_b : (s.push x).shadow_b = s.shadow_b := rfl
@[simp] theorem push_live_a : (s.push x).live_a = s.live_a := rfl
@[simp] theorem push_live_b : (s.push x).live_b = s.live_b := rfl
@[simp] theorem push_p : (s.push x).p = s.p := rfl
@[simp] theorem push_stimuli : (s.push x).stimuli = x :: s.stimuli := rfl
@[simp] theorem push_draws : (s.push x).draws = s.draws := rfl
end push

end Sys2Proof.Machine.State
end

