-- ==== Sys2Proof/Laws/Ops.lean ====
section
/-!
SUPPORT. One lemma per shared operation that says everything it can do; later proofs cite these and do not unfold the operations.
-/

namespace Sys2Proof.Machine

/-- Sequencing answers a next state exactly when both parts do. -/
theorem andThen_next_iff {r : Result} {k : State → Result} {t : State} :
    andThen r k = .next t ↔ ∃ m, r = .next m ∧ k m = .next t := by
  cases r <;> simp [andThen]

@[simp] theorem andThen_next (s : State) (k : State → Result) : andThen (.next s) k = k s := rfl

@[simp] theorem andThen_refused (q : Refusal) (k : State → Result) : andThen (.refused q) k = .refused q := rfl

/-- Sequencing is associative. -/
theorem andThen_assoc (r : Result) (k l : State → Result) :
    andThen (andThen r k) l = andThen r fun s => andThen (k s) l := by
  cases r <;> rfl

/-- Sequencing refuses exactly when its first part does, or its second after the first. -/
theorem andThen_refused_iff {r : Result} {k : State → Result} {q : Refusal} :
    andThen r k = .refused q ↔ r = .refused q ∨ ∃ m, r = .next m ∧ k m = .refused q := by
  cases r <;> simp [andThen]

/-- A tick's effect is taken exactly when the sequencer is idle. -/
theorem atTick_next_iff {s t : State} {k : Result} : atTick s k = .next t ↔ s.useq = .uIdle ∧ k = .next t := by
  unfold atTick; split <;> simp [*]

theorem atTick_idle {s : State} (h : s.useq = .uIdle) (k : Result) : atTick s k = k := by simp [atTick, h]

theorem atTick_busy {s : State} (h : s.useq ≠ .uIdle) (k : Result) : atTick s k = .refused .tickWhileUpdating := by
  simp [atTick, h]

/-- A request is latched exactly when the sequencer is idle. -/
theorem request_next_iff {la lb : Level} {s t : State} :
    request la lb s = .next t ↔ s.useq = .uIdle ∧ t = s.latchRequest la lb := by
  unfold request; split
  · simp [*, eq_comm (a := t)]
  · simp [*]

theorem request_idle {s : State} (h : s.useq = .uIdle) (la lb : Level) :
    request la lb s = .next (s.latchRequest la lb) := by simp [request, h]

/-- `action()` in its nine cases: it does nothing, or latches one request, in one case after switching the indicator off. -/
theorem action_next {s t : State} (h : action s = .next t) :
    (t = s ∧ (s.button = .bNone ∨ s.button = .bAdjust ∧ s.channel = .chNone)) ∨
    (s.useq = .uIdle ∧ ∃ la lb, t = s.latchRequest la lb) ∨
    (s.useq = .uIdle ∧ s.button = .bToggleBoth ∧ s.power_on = false ∧
      t = (s.setIndicator false).latchRequest s.level s.level) := by
  unfold action at h
  split at h
  · next hb => exact .inl ⟨by simpa [execActNone] using h.symm, .inl hb⟩
  · obtain ⟨hu, ht⟩ := request_next_iff.1 h
    exact .inr (.inl ⟨hu, _, _, ht⟩)
  · obtain ⟨hu, ht⟩ := request_next_iff.1 h
    exact .inr (.inl ⟨hu, _, _, ht⟩)
  · next hb =>
    split at h
    · obtain ⟨hu, ht⟩ := request_next_iff.1 h
      exact .inr (.inl ⟨hu, _, _, ht⟩)
    · next hp =>
      obtain ⟨hu, ht⟩ := request_next_iff.1 h
      exact .inr (.inr ⟨by simpa using hu, hb, by simpa using hp, ht⟩)
  · next hb =>
    split at h
    · next hc => exact .inl ⟨by simpa [execActAdjNone] using h.symm, .inr ⟨hb, hc⟩⟩
    all_goals
      obtain ⟨hu, ht⟩ := request_next_iff.1 h
      exact .inr (.inl ⟨hu, _, _, ht⟩)

/-- With the sequencer idle, `action()` always answers a next state. -/
theorem action_completes {s : State} (h : s.useq = .uIdle) : ∃ t, action s = .next t := by
  unfold action
  repeat' split
  all_goals first | exact ⟨_, rfl⟩ | exact ⟨_, request_idle h _ _⟩ | exact ⟨_, request_idle (s := s.setIndicator false) h _ _⟩

/-- `action()` leaves the settings and the hold and debounce counters alone. -/
theorem action_frame {s t : State} (h : action s = .next t) :
    t.settings = s.settings ∧ t.db_cnt = s.db_cnt ∧ t.hold_delay = s.hold_delay ∧ t.hold_rate = s.hold_rate ∧
      t.sync_en = s.sync_en ∧ t.shadow_a = s.shadow_a ∧ t.shadow_b = s.shadow_b ∧ t.live_a = s.live_a ∧
      t.live_b = s.live_b ∧ t.p = s.p ∧ t.stimuli = s.stimuli ∧ t.draws = s.draws := by
  rcases action_next h with ⟨rfl, -⟩ | ⟨-, la, lb, rfl⟩ | ⟨-, -, -, rfl⟩ <;> simp [State.settings]

/-- A button sub-operation changes at most `button`, `power_on`, `channel` and `level`. -/
theorem pressedButtons_frame (s : State) :
    ∃ b pw c l, pressedButtons s = { s with button := b, power_on := pw, channel := c, level := l } := by
  have h0 : ∀ u : State, ∃ b pw c l, btn0 u = { u with button := b, power_on := pw, channel := c, level := l } := by
    intro u; unfold btn0; repeat' split
    all_goals exact ⟨_, _, _, _, rfl⟩
  have h1 : ∀ u : State, ∃ b pw c l, btn1 u = { u with button := b, power_on := pw, channel := c, level := l } :=
    fun u => ⟨_, _, _, _, rfl⟩
  have h2 : ∀ u : State, ∃ b pw c l, btn2 u = { u with button := b, power_on := pw, channel := c, level := l } :=
    fun u => ⟨_, _, _, _, rfl⟩
  have h3 : ∀ u : State, ∃ b pw c l, btn3 u = { u with button := b, power_on := pw, channel := c, level := l } := by
    intro u; unfold btn3; split
    all_goals exact ⟨_, _, _, _, rfl⟩
  have h4 : ∀ u : State, ∃ b pw c l, btn4 u = { u with button := b, power_on := pw, channel := c, level := l } := by
    intro u; unfold btn4; split
    all_goals exact ⟨_, _, _, _, rfl⟩
  have hp : ∀ (i : Nat) (f : State → State) (u : State),
      (∀ v : State, ∃ b pw c l, f v = { v with button := b, power_on := pw, channel := c, level := l }) →
      ∃ b pw c l, ifPressed i f u = { u with button := b, power_on := pw, channel := c, level := l } := by
    intro i f u hf; unfold ifPressed; split
    · exact hf u
    · exact ⟨_, _, _, _, rfl⟩
  obtain ⟨_, _, _, _, e0⟩ := hp 0 btn0 s h0
  obtain ⟨_, _, _, _, e1⟩ := hp 1 btn1 (ifPressed 0 btn0 s) h1
  obtain ⟨_, _, _, _, e2⟩ := hp 2 btn2 _ h2
  obtain ⟨_, _, _, _, e3⟩ := hp 3 btn3 _ h3
  obtain ⟨b, pw, c, l, e4⟩ := hp 4 btn4 _ h4
  refine ⟨b, pw, c, l, ?_⟩
  unfold pressedButtons
  rw [e4, e3, e2, e1, e0]

/-- Whatever every pressed button's sub-operation keeps, the whole scan keeps; a property is only asked of the buttons that are
pressed. -/
theorem pressedButtons_induct {P : State → Prop} (s : State)
    (h0 : s.pressed 0 = true → ∀ u, P u → P (btn0 u)) (h1 : s.pressed 1 = true → ∀ u, P u → P (btn1 u))
    (h2 : s.pressed 2 = true → ∀ u, P u → P (btn2 u)) (h3 : s.pressed 3 = true → ∀ u, P u → P (btn3 u))
    (h4 : s.pressed 4 = true → ∀ u, P u → P (btn4 u)) (hs : P s) : P (pressedButtons s) := by
  have p0 : ∀ u, (btn0 u).p = u.p := by intro u; unfold btn0; split_ifs <;> rfl
  have p1 : ∀ u, (btn1 u).p = u.p := fun _ => rfl
  have p2 : ∀ u, (btn2 u).p = u.p := fun _ => rfl
  have p3 : ∀ u, (btn3 u).p = u.p := by intro u; unfold btn3; split_ifs <;> rfl
  have p4 : ∀ u, (btn4 u).p = u.p := by intro u; unfold btn4; split_ifs <;> rfl
  have one : ∀ (i : Nat) (f : State → State) (u : State), (∀ v, (f v).p = v.p) →
      (s.pressed i = true → ∀ v, P v → P (f v)) → u.p = s.p ∧ P u → (ifPressed i f u).p = s.p ∧ P (ifPressed i f u) := by
    intro i f u hp hf hu
    unfold ifPressed
    split
    · next h => exact ⟨(hp u).trans hu.1, hf (by simpa [State.pressed, hu.1] using h) u hu.2⟩
    · exact hu
  exact (one 4 btn4 _ p4 h4 (one 3 btn3 _ p3 h3 (one 2 btn2 _ p2 h2 (one 1 btn1 _ p1 h1 (one 0 btn0 s p0 h0 ⟨rfl, hs⟩))))).2

/-- The counters of T_HELD hold the counts themselves: both fit their registers (R53 (d)). -/
theorem nextHoldDelay_fits (s : State) : (BitVec.ofNat 9 (nextHoldDelay s)).toNat = nextHoldDelay s := by
  have : nextHoldDelay s ≤ 350 := Nat.min_le_left _ _
  simp only [BitVec.toNat_ofNat]; omega

theorem nextHoldRate_fits (s : State) : (BitVec.ofNat 4 (nextHoldRate s)).toNat = nextHoldRate s := by
  have : nextHoldRate s ≤ 15 := Nat.min_le_left _ _
  simp only [BitVec.toNat_ofNat]; omega

/-- No button is down exactly when the pressed mask is 0. -/
theorem noneDown_iff {s : State} : s.noneDown = true ↔ s.p = 0 := by simp [State.noneDown]

theorem noneDown_false_iff {s : State} : s.noneDown = false ↔ s.p ≠ 0 := by simp [State.noneDown]

/-- A pressed button is a button down. -/
theorem noneDown_of_pressed {s : State} {i : Nat} (h : s.pressed i = true) : s.noneDown = false := by
  rw [noneDown_false_iff]
  intro h0
  simp [State.pressed, h0] at h

/-- The count of T_DEBOUNCE in numbers (R56). -/
theorem debounceDone_iff {s : State} : s.debounceDone = true ↔ 10 ≤ s.db_cnt.toNat := by
  rw [State.debounceDone, decide_eq_true_iff, DEBOUNCE_TICKS]; omega

/-- The guard of a repeat in numbers (R63). -/
theorem repeatDue_iff {s : State} :
    s.repeatDue = true ↔ 349 ≤ s.hold_delay.toNat ∧ 14 ≤ s.hold_rate.toNat ∧ s.channel ≠ .chNone := by
  have hd : 350 ≤ nextHoldDelay s ↔ 349 ≤ s.hold_delay.toNat := by simp only [nextHoldDelay, HOLD_DELAY]; omega
  have hr : 15 ≤ nextHoldRate s ↔ 14 ≤ s.hold_rate.toNat := by simp only [nextHoldRate, HOLD_RATE]; omega
  simp [State.repeatDue, HOLD_DELAY, HOLD_RATE, State.channelActive, hd, hr, and_assoc]

/-- The running maximum of a table does not decrease. -/
theorem runningMax_mono (raw : Nat → Target) {i j : Nat} (h : i ≤ j) : runningMax raw i ≤ runningMax raw j := by
  induction h with
  | refl => exact le_rfl
  | step _ ih => exact ih.trans (Nat.le_max_left _ _)

end Sys2Proof.Machine
end

