-- ==== Sys2Proof/Laws/Agents.lean ====
section
/-!
SUPPORT. Each agent runs one operation: the decoded one. Inversion lemmas of the transition functions.
-/

namespace Sys2Proof.Machine

@[simp] theorem execAll_one (i : Instr) (s : State) : execAll [i] s = exec i s := by
  unfold execAll
  cases h : exec i s <;> simp [andThen, execAll]

@[simp] theorem resetAgent_eq (s : State) : resetAgent s = exec .reset s := by simp [resetAgent, runWord]

@[simp] theorem tickAgent_eq (p : Pressed) (s : State) : tickAgent p s = exec s.state.op (s.samplePort p) := by
  simp [tickAgent, runWord, State.dispatchS]

@[simp] theorem updAgent_eq (s : State) : updAgent s = exec s.useq.op s := by
  simp [updAgent, runWord, State.dispatchU]

@[simp] theorem ovfAgent_eq (s : State) :
    ovfAgent s = exec (if s.sync_en then .commit else .commitNop) s := by
  simp [ovfAgent, runWord, State.dispatchV]

/-- `action()` is the meaning of the case the settings select. -/
theorem action_eq_exec (s : State) : action s = exec (actionOp s.power_on s.channel s.button) s := by
  unfold action actionOp
  cases s.button <;> cases s.channel <;> cases s.power_on <;> rfl

/-- An overflow writes the live pair or nothing, and always completes. -/
theorem ovfAgent_completes (s : State) :
    ovfAgent s = .next (if s.sync_en then s.setLive s.shadow_a s.shadow_b else s) := by
  cases h : s.sync_en <;> simp [h, exec, execCommit, execCommitNop]

/-- A sequencer step always completes. -/
theorem updAgent_completes (s : State) : ∃ t, updAgent s = .next t := by
  cases h : s.useq <;> simp [h, Useq.op, exec, execUIdle, execUClr, execUWra, execUWrb, execUSet]

/-- The four micro-operations as UOP stimuli, by the value of `useq`. -/
theorem uop_clr {s : State} (h : s.useq = .uClr) :
    applyStimulus .uop s = .next ((s.setSyncEn false).setUseq .uWra) := by
  simp only [applyStimulus, updAgent_eq, h]; rfl

theorem uop_wra {s : State} (h : s.useq = .uWra) :
    applyStimulus .uop s = .next ((s.setShadowA s.targetA).setUseq .uWrb) := by
  simp only [applyStimulus, updAgent_eq, h]; rfl

theorem uop_wrb {s : State} (h : s.useq = .uWrb) :
    applyStimulus .uop s = .next ((s.setShadowB s.targetB).setUseq .uSet) := by
  simp only [applyStimulus, updAgent_eq, h]; rfl

theorem uop_set {s : State} (h : s.useq = .uSet) :
    applyStimulus .uop s = .next ((s.setSyncEn true).setUseq .uIdle) := by
  simp only [applyStimulus, updAgent_eq, h]; rfl

/-- A TICK runs the transition function of the state's value on the sampled mask. -/
theorem applyStimulus_tick (q : Pressed) (s : State) :
    applyStimulus (.tick q) s = exec s.state.op (s.samplePort q) := tickAgent_eq q s

/-- Running two lists of stimuli is running the first and then the second. -/
theorem applyAll_append (xs ys : List Stimulus) (s : State) :
    applyAll (xs ++ ys) s = andThen (applyAll xs s) (applyAll ys) := by
  induction xs generalizing s with
  | nil => rfl
  | cons x xs ih => simp only [List.cons_append, applyAll, andThen_assoc]; congr; funext t; exact ih t

/-- Running two lists of operations is running the first and then the second. -/
theorem execAll_append (is js : List Instr) (s : State) :
    execAll (is ++ js) s = andThen (execAll is s) (execAll js) := by
  induction is generalizing s with
  | nil => rfl
  | cons i is ih => simp only [List.cons_append, execAll, andThen_assoc]; congr; funext t; exact ih t

/-- Ticks in two lists are the first list's and then the second's. -/
theorem ticks_append (ps qs : List Pressed) (s : State) : ticks (ps ++ qs) s = andThen (ticks ps s) (ticks qs) := by
  induction ps generalizing s with
  | nil => rfl
  | cons p ps ih => simp only [List.cons_append, ticks, andThen_assoc]; congr; funext t; exact ih t

/-- A DRAIN with the sequencer idle does nothing. -/
theorem drain_idle {s : State} (h : s.useq = .uIdle) : drain s = .next s := by
  simp only [drain, drainUpTo, h]; rfl

/-- One more UOP of a DRAIN. -/
theorem drainUpTo_succ {n : Nat} {s t : State} (hu : s.useq ≠ .uIdle) (h : applyStimulus .uop s = .next t) :
    drainUpTo (n + 1) s = drainUpTo n t := by
  rw [drainUpTo, if_neg hu, h, andThen_next]

/-- A DRAIN of a fresh request performs its four micro-operations. -/
theorem drain_request {s : State} (h : s.useq = .uClr) :
    drain s = .next (((((s.setSyncEn false).setShadowA s.targetA).setShadowB s.targetB).setSyncEn true).setUseq .uIdle) := by
  have n1 : s.useq ≠ .uIdle := by simp [h]
  rw [drain, drainUpTo_succ n1 (uop_clr h), drainUpTo_succ (by simp) (uop_wra (by simp)),
    drainUpTo_succ (by simp) (uop_wrb (by simp)), drainUpTo_succ (by simp) (uop_set (by simp)), drainUpTo]
  rfl

theorem tIdle_next {s t : State} (h : exec .tIdle s = .next t) :
    s.useq = .uIdle ∧ ((s.noneDown = true ∧ t = s) ∨ (s.noneDown = false ∧ t = (s.goto .debouncing).setDbCnt 0)) := by
  obtain ⟨hu, h⟩ := atTick_next_iff.1 h
  refine ⟨hu, ?_⟩
  split at h <;> cases h <;> simp_all

theorem tDebounce_next {s t : State} (h : exec .tDebounce s = .next t) :
    s.useq = .uIdle ∧
      ((s.noneDown = true ∧ t = (s.goto .idle).setDbCnt 0) ∨
       (s.noneDown = false ∧ s.debounceDone = true ∧ t = ((s.goto .buttonPressed).setIndicator true).setDbCnt 0) ∨
       (s.noneDown = false ∧ s.debounceDone = false ∧ t = s.setDbCnt (s.db_cnt.toNat + 1))) := by
  obtain ⟨hu, h⟩ := atTick_next_iff.1 h
  refine ⟨hu, ?_⟩
  split at h
  · cases h; simp_all
  · split at h <;> cases h <;> simp_all

theorem tPressed_next {s t : State} (h : exec .tPressed s = .next t) :
    s.useq = .uIdle ∧ ∃ m, action (pressedButtons s) = .next m ∧ t = enterHeld m := by
  obtain ⟨hu, h⟩ := atTick_next_iff.1 h
  obtain ⟨m, hm, ht⟩ := andThen_next_iff.1 h
  exact ⟨hu, m, hm, by cases ht; rfl⟩

theorem repeatAdjust_next {l : Level} {s t : State} (h : repeatAdjust l s = .next t) :
    ∃ m, action ((s.setLevel l).setButton .bAdjust) = .next m ∧ t = m.setHoldRate 0 := by
  obtain ⟨m, hm, ht⟩ := andThen_next_iff.1 h
  exact ⟨m, hm, by cases ht; rfl⟩

/-- `action()` writes the request latch, the sequencer and at most the indicator; it requests unless the settings select an empty
case. -/
theorem action_shape {s t : State} (h : action s = .next t) :
    ∃ la lb u ind, t = { s with req_la := la, req_lb := lb, useq := u, indicator := ind } ∧
      (ind = s.indicator ∨ ind = false ∧ s.button = .bToggleBoth ∧ s.power_on = false) ∧
      (t = s ∧ (s.button = .bNone ∨ s.button = .bAdjust ∧ s.channel = .chNone) ∨ s.useq = .uIdle ∧ u = .uClr) := by
  rcases action_next h with ⟨rfl, h1⟩ | ⟨h1, la, lb, rfl⟩ | ⟨h1, h2, h3, rfl⟩
  · exact ⟨_, _, _, _, rfl, .inl rfl, .inl ⟨rfl, h1⟩⟩
  · exact ⟨_, _, _, _, rfl, .inl rfl, .inr ⟨h1, rfl⟩⟩
  · exact ⟨_, _, _, _, rfl, .inr ⟨rfl, h2, h3⟩, .inr ⟨h1, rfl⟩⟩

/-- A repeat with a channel active: the new level, `B_Adjust`, one latched request, the rate cleared, and nothing else. -/
theorem repeatAdjust_shape {l : Level} {s t : State} (h : repeatAdjust l s = .next t) (hc : s.channel ≠ .chNone) :
    s.useq = .uIdle ∧ ∃ la lb, t = (((s.setLevel l).setButton .bAdjust).latchRequest la lb).setHoldRate 0 := by
  obtain ⟨m, hm, rfl⟩ := repeatAdjust_next h
  rcases action_next hm with ⟨rfl, h1⟩ | ⟨hu, la, lb, rfl⟩ | ⟨-, h1, -⟩
  · simp at h1; exact absurd h1 hc
  · exact ⟨hu, la, lb, rfl⟩
  · simp at h1

/-- A repeat in any state: the registers a repeat does not name keep their values. -/
theorem repeatAdjust_frame {l : Level} {s t : State} (h : repeatAdjust l s = .next t) :
    ∃ la lb u, t = { s with level := l, button := .bAdjust, hold_rate := 0, req_la := la, req_lb := lb, useq := u } ∧
      (u = s.useq ∨ u = .uClr) := by
  obtain ⟨m, hm, rfl⟩ := repeatAdjust_next h
  rcases action_next hm with ⟨rfl, -⟩ | ⟨-, la, lb, rfl⟩ | ⟨-, h1, -⟩
  · exact ⟨_, _, _, rfl, .inl rfl⟩
  · exact ⟨la, lb, _, rfl, .inr rfl⟩
  · simp at h1

/-- An overflow stimulus writes the live pair or nothing. -/
theorem applyStimulus_ovf (s : State) :
    applyStimulus .ovf s = .next (if s.sync_en then s.setLive s.shadow_a s.shadow_b else s) := ovfAgent_completes s

/-- A list of one stimulus is that stimulus. -/
@[simp] theorem applyAll_one (x : Stimulus) (s : State) : applyAll [x] s = applyStimulus x s := by
  rw [applyAll]; cases applyStimulus x s <;> rfl

/-- Overflows with the flag up commit the shadow pair, once for all. -/
theorem ovfs_up (n : Nat) {s : State} (h : s.sync_en = true) :
    applyAll (List.replicate n .ovf) s = .next (if 0 < n then s.setLive s.shadow_a s.shadow_b else s) := by
  induction n generalizing s with
  | zero => rfl
  | succ n ih =>
    rw [List.replicate_succ, applyAll, applyStimulus_ovf, if_pos h, andThen_next, ih (by simpa using h)]
    simp only [Nat.zero_lt_succ, if_true]
    split_ifs <;> rfl

/-- Overflows with the flag down do nothing. -/
theorem ovfs_down (n : Nat) {s : State} (h : s.sync_en = false) : applyAll (List.replicate n .ovf) s = .next s := by
  induction n with
  | zero => rfl
  | succ n ih => rw [List.replicate_succ, applyAll, applyStimulus_ovf, if_neg (by simp [h]), andThen_next, ih]

theorem tHeld_next {s t : State} (h : exec .tHeld s = .next t) :
    s.useq = .uIdle ∧
      ((s.noneDown = true ∧ t = ((s.goto .buttonReleased).setHoldDelay 0).setHoldRate 0) ∨
       (s.noneDown = false ∧ s.pressed 3 = true ∧ s.repeatDue = true ∧
         repeatAdjust (satInc s.level) (countHeld s) = .next t) ∨
       (s.noneDown = false ∧ s.pressed 3 = false ∧ s.pressed 4 = true ∧ s.repeatDue = true ∧
         repeatAdjust (floorDec s.level) (countHeld s) = .next t) ∨
       (s.noneDown = false ∧ (s.repeatDue = false ∨ s.pressed 3 = false ∧ s.pressed 4 = false) ∧ t = countHeld s)) := by
  obtain ⟨hu, h⟩ := atTick_next_iff.1 h
  refine ⟨hu, ?_⟩
  split at h
  · cases h; simp_all
  · split at h
    · exact .inr (.inl ⟨by simp_all, by simp_all, by simp_all, h⟩)
    · split at h
      · refine .inr (.inr (.inl ⟨by simp_all, by simp_all, by simp_all, by simp_all, h⟩))
      · cases h
        refine .inr (.inr (.inr ⟨by simp_all, ?_, rfl⟩))
        cases h1 : s.repeatDue <;> simp_all

theorem tReleased_next {s t : State} (h : exec .tReleased s = .next t) :
    s.useq = .uIdle ∧ t = (s.goto .idle).setIndicator false := by
  obtain ⟨hu, h⟩ := atTick_next_iff.1 h
  exact ⟨hu, by cases h; rfl⟩

/-- A clock edge in one equation: reset, or the overflow's copy followed by the tick or the sequencer's step (R92). -/
theorem applyStimulus_edge (v : BitVec 8) (s : State) :
    applyStimulus (.edge v) s =
      if byteRst v then exec .reset s
      else
        let u := if byteOvf v && s.sync_en then s.setLive s.shadow_a s.shadow_b else s
        if byteTick v then exec u.state.op (u.samplePort (bytePressed v)) else exec u.useq.op u := by
  simp only [applyStimulus, edgeAgents, ovfAgent_completes, resetAgent_eq]
  split_ifs <;> simp_all

/-- What RESET, a tick, a sequencer step and a commit all keep, every stimulus keeps. -/
theorem applyStimulus_keeps {P : State → Prop}
    (hr : ∀ s t, P s → exec .reset s = .next t → P t)
    (ht : ∀ q s t, P s → exec s.state.op (s.samplePort q) = .next t → P t)
    (hu : ∀ s t, P s → exec s.useq.op s = .next t → P t)
    (ho : ∀ s, P s → s.sync_en = true → P (s.setLive s.shadow_a s.shadow_b)) {x : Stimulus} {s t : State}
    (hs : P s) (h : applyStimulus x s = .next t) : P t := by
  cases x with
  | reset => exact hr s t hs (by simpa [applyStimulus] using h)
  | tick q => exact ht q s t hs (by simpa [applyStimulus] using h)
  | uop =>
    simp only [applyStimulus, updAgent_eq] at h
    split at h
    · cases h
    · exact hu s t hs h
  | ovf =>
    rw [applyStimulus_ovf] at h
    cases h
    split
    · exact ho s hs ‹_›
    · exact hs
  | edge v =>
    rw [applyStimulus_edge] at h
    split at h
    · exact hr s t hs h
    · have hu' : P (if (byteOvf v && s.sync_en) = true then s.setLive s.shadow_a s.shadow_b else s) := by
        split
        · exact ho s hs (by simp_all)
        · exact hs
      simp only at h
      split at h
      · exact ht _ _ t hu' h
      · exact hu _ t hu' h

/-- The sequencer's step, by the value of `useq`, as one state. -/
theorem updAgent_next {s t : State} (h : exec s.useq.op s = .next t) :
    (s.useq = .uIdle ∧ t = s) ∨
    (s.useq = .uClr ∧ t = (s.setSyncEn false).setUseq .uWra) ∨
    (s.useq = .uWra ∧ t = (s.setShadowA s.targetA).setUseq .uWrb) ∨
    (s.useq = .uWrb ∧ t = (s.setShadowB s.targetB).setUseq .uSet) ∨
    (s.useq = .uSet ∧ t = (s.setSyncEn true).setUseq .uIdle) := by
  cases hu : s.useq <;> rw [hu] at h <;> cases h <;> simp

end Sys2Proof.Machine
end

