-- ==== Sys2Proof/Laws/PerInstr.lean ====
section
/-!
SUPPORT. Facts about each operation as syntax, one lemma per constructor.
-/

namespace Sys2Proof.Laws.WordInRow

/-- An operation's word fits its format and lies in its row of the dispatch table: `(word & mask) = match` (R47). -/
def Statement (i : Instr) : Prop := encode i < 2 ^ i.format.width ∧ encode i &&& i.mask = i.pattern

theorem reset : Statement .reset := by unfold Statement; decide

theorem tIdle : Statement .tIdle := by unfold Statement; decide

theorem tDebounce : Statement .tDebounce := by unfold Statement; decide

theorem tPressed : Statement .tPressed := by unfold Statement; decide

theorem tHeld : Statement .tHeld := by unfold Statement; decide

theorem tReleased : Statement .tReleased := by unfold Statement; decide

theorem btn0 : Statement .btn0 := by unfold Statement; decide

theorem btn1 : Statement .btn1 := by unfold Statement; decide

theorem btn2 : Statement .btn2 := by unfold Statement; decide

theorem btn3 : Statement .btn3 := by unfold Statement; decide

theorem btn4 : Statement .btn4 := by unfold Statement; decide

theorem heldRelease : Statement .heldRelease := by unfold Statement; decide

theorem repInc : Statement .repInc := by unfold Statement; decide

theorem repDec : Statement .repDec := by unfold Statement; decide

theorem actToggleOn : Statement .actToggleOn := by unfold Statement; decide

theorem actToggleOff : Statement .actToggleOff := by unfold Statement; decide

theorem actCool : Statement .actCool := by unfold Statement; decide

theorem actWarm : Statement .actWarm := by unfold Statement; decide

theorem actAdjBoth : Statement .actAdjBoth := by unfold Statement; decide

theorem actAdjCool : Statement .actAdjCool := by unfold Statement; decide

theorem actAdjWarm : Statement .actAdjWarm := by unfold Statement; decide

theorem actAdjNone : Statement .actAdjNone := by unfold Statement; decide

theorem actNone : Statement .actNone := by unfold Statement; decide

theorem bset (la lb : Level) : Statement (.bset la lb) := by
  have h1 := la.isLt
  have h2 := lb.isLt
  have e : encode (.bset la lb) = lb.toNat * 256 + la.toNat := by simp [encode, encodeWith, Instr.pattern]
  have h : lb.toNat * 256 + la.toNat < 2 ^ 16 := by omega
  refine ⟨by rw [e]; exact h, ?_⟩
  rw [e]
  exact (Nat.and_two_pow_sub_one_eq_mod _ 16).trans (Nat.mod_eq_of_lt h)

theorem uIdle : Statement .uIdle := by unfold Statement; decide

theorem uClr : Statement .uClr := by unfold Statement; decide

theorem uWra : Statement .uWra := by unfold Statement; decide

theorem uWrb : Statement .uWrb := by unfold Statement; decide

theorem uSet : Statement .uSet := by unfold Statement; decide

theorem commit : Statement .commit := by unfold Statement; decide

theorem commitNop : Statement .commitNop := by unfold Statement; decide

end Sys2Proof.Laws.WordInRow
end

