-- ==== Sys2Proof/Tests/Slice0.lean ====
section
/-!
SUPPORT. The model's own tests. Words are written out bit by bit from spec/30_encoding.md R47 (their digits grouped by field), expected
results are the vectors of spec/95_test_vectors.md (named V-…) or the examples of the rules. Witnesses show, for each statement with
hypotheses, a concrete state that meets them.
-/

namespace Sys2Proof.Tests

open Sys2Proof Sys2Proof.Machine Sys2Proof.Safety

/-- A field of a result's next state, none where there is no next state. -/
def field {α : Type} (r : Result) (f : State → α) : Option α :=
  match r with
  | .next t => some (f t)
  | .fault _ => none
  | .refused _ => none

/-- Settings in the order of the vectors. -/
structure Settings where
  power_on : Bool
  channel  : Channel
  level    : Level
  button   : ButtonAction
  deriving DecidableEq, Repr

/-- A state with given settings, `state` and pressed mask, everything else as after reset. -/
def mk (x : FsmState) (c : Settings) (q : Pressed) : State :=
  { State.reset with state := x, power_on := c.power_on, channel := c.channel, level := c.level, button := c.button, p := q }

/-- The settings of a state. -/
def settingsOf (s : State) : Settings := ⟨s.power_on, s.channel, s.level, s.button⟩

/-- A tick in `ButtonPressed` with the indicator on, and all that section 3.3 of the vectors shows of its result: the settings, the
request, whether one was issued, the indicator, the state. -/
def pressTick (c : Settings) (q : Pressed) : Option (Settings × (Level × Level) × Bool × Bool × FsmState) :=
  field (applyStimulus (.tick q) { mk .buttonPressed c 0 with indicator := true }) fun t =>
    (settingsOf t, (t.req_la, t.req_lb), t.useq == .uClr, t.indicator, t.state)

/-- A tick in `ButtonHeld`, and what section 3.6 of the vectors shows of it: settings, counters, request, whether one was issued. -/
def heldTick (c : Settings) (d : BitVec 9) (r : BitVec 4) (q : Pressed) :
    Option (Settings × (Nat × Nat) × (Level × Level) × Bool × FsmState) :=
  field (applyStimulus (.tick q) { mk .buttonHeld c 0 with hold_delay := d, hold_rate := r }) fun t =>
    (settingsOf t, (t.hold_delay.toNat, t.hold_rate.toNat), (t.req_la, t.req_lb), t.useq == .uClr, t.state)

def off : Settings := ⟨false, .chNone, 0, .bNone⟩
def on180 : Settings := ⟨true, .chBoth, 180, .bToggleBoth⟩

/-! ### Ill-formed words are refused -/

theorem test_wf_too_wide_state : Format.wordWellFormed .S 0b1000 = false ∧ decode .S 0b1000 = .error .tooWide := ⟨by decide, rfl⟩
theorem test_wf_too_wide_pressed : Format.wordWellFormed .P 0b100000 = false ∧ decode .P 0b100000 = .error .tooWide :=
  ⟨by decide, rfl⟩
theorem test_wf_too_wide_ovf : Format.wordWellFormed .V 0b100 = false ∧ decode .V 0b100 = .error .tooWide := ⟨by decide, rfl⟩
theorem test_wf_too_wide_request : Format.wordWellFormed .B 0x10000 = false ∧ decode .B 0x10000 = .error .tooWide :=
  ⟨by decide, rfl⟩
theorem test_wf_reserved_state : Format.wordWellFormed .S 0b101 = false ∧ decode .S 0b101 = .error .reservedCode :=
  ⟨by decide, rfl⟩
theorem test_wf_reserved_useq : Format.wordWellFormed .U 0b111 = false ∧ decode .U 0b111 = .error .reservedCode :=
  ⟨by decide, rfl⟩
theorem test_wf_reserved_button : Format.wordWellFormed .A 0b1_11_110 = false ∧ decode .A 0b1_11_110 = .error .reservedCode :=
  ⟨by decide, rfl⟩
theorem test_wf_legal_words : Format.wordWellFormed .S 0b100 = true ∧ Format.wordWellFormed .A 0b1_11_100 = true := by decide

/-! ### Decoding words written out from R47, one or more for every operation -/

/-- Format E, `{rst, tick, pwm_ovf}`: `1xx` is RESET; the other words are no row of format E. -/
theorem test_decode_E : decode .E 0b100 = .ok [.reset] ∧ decode .E 0b111 = .ok [.reset] ∧ decode .E 0b011 = .ok [] :=
  ⟨rfl, rfl, rfl⟩
/-- Format S, `state`, codes of R42. -/
theorem test_decode_S : decode .S 0b000 = .ok [.tIdle] ∧ decode .S 0b001 = .ok [.tDebounce] ∧ decode .S 0b010 = .ok [.tPressed] ∧
    decode .S 0b011 = .ok [.tHeld] ∧ decode .S 0b100 = .ok [.tReleased] := ⟨rfl, rfl, rfl, rfl, rfl⟩
/-- Format P, `p[4:0]`, every matching row in order. -/
theorem test_decode_P : decode .P 0b00001 = .ok [.btn0] ∧ decode .P 0b00010 = .ok [.btn1] ∧ decode .P 0b00100 = .ok [.btn2] ∧
    decode .P 0b01000 = .ok [.btn3] ∧ decode .P 0b10000 = .ok [.btn4] ∧ decode .P 0b00000 = .ok [] ∧
    decode .P 0b11111 = .ok [.btn0, .btn1, .btn2, .btn3, .btn4] := ⟨rfl, rfl, rfl, rfl, rfl, rfl, rfl⟩
/-- Format H, `p[4:0]`: release, button 3, button 4 without 3, none of these. -/
theorem test_decode_H : decode .H 0b00000 = .ok [.heldRelease] ∧ decode .H 0b01011 = .ok [.repInc] ∧
    decode .H 0b10110 = .ok [.repDec] ∧ decode .H 0b00111 = .ok [] := ⟨rfl, rfl, rfl, rfl⟩
/-- Format A, `{power_on, channel, button}`, the words of V-A1 to V-A14. -/
theorem test_decode_A : decode .A 0b1_11_011 = .ok [.actToggleOn] ∧ decode .A 0b0_00_011 = .ok [.actToggleOff] ∧
    decode .A 0b1_10_010 = .ok [.actCool] ∧ decode .A 0b0_01_001 = .ok [.actWarm] ∧ decode .A 0b1_11_100 = .ok [.actAdjBoth] ∧
    decode .A 0b0_10_100 = .ok [.actAdjCool] ∧ decode .A 0b1_01_100 = .ok [.actAdjWarm] ∧
    decode .A 0b1_00_100 = .ok [.actAdjNone] ∧ decode .A 0b0_00_000 = .ok [.actNone] :=
  ⟨rfl, rfl, rfl, rfl, rfl, rfl, rfl, rfl, rfl⟩
/-- Format U, `useq`, codes of R46. -/
theorem test_decode_U : decode .U 0b000 = .ok [.uIdle] ∧ decode .U 0b001 = .ok [.uClr] ∧ decode .U 0b010 = .ok [.uWra] ∧
    decode .U 0b011 = .ok [.uWrb] ∧ decode .U 0b100 = .ok [.uSet] := ⟨rfl, rfl, rfl, rfl, rfl⟩
/-- Format V, `{pwm_ovf, sync_en}`; without an overflow nothing is selected. -/
theorem test_decode_V : decode .V 0b11 = .ok [.commit] ∧ decode .V 0b10 = .ok [.commitNop] ∧ decode .V 0b01 = .ok [] :=
  ⟨rfl, rfl, rfl⟩
/-- Format B, `{lb, la}`: BSET(0,180) = 0xB400, BSET(180,0) = 0x00B4 (section 3.5 of the vectors). -/
theorem test_decode_B : decode .B 0xB400 = .ok [.bset 0 180] ∧ decode .B 0x00B4 = .ok [.bset 180 0] := by decide
/-- The encoder writes the same words. -/
theorem test_encode : encode (.bset 0 180) = 0xB400 ∧ encode .repDec = 0b10000 ∧ encode .actAdjBoth = 0x1C ∧ encode .commit = 0b11 ∧
    encodeWith 0b111111 .actCool = 0b1_11_010 := by decide
/-- Stimulus bytes of section 3.9 of the vectors. -/
theorem test_bytes : encodeStimulus .reset = some 0x9F ∧ encodeStimulus (.tick 0b11000) = some 0x47 ∧
    encodeStimulus .ovf = some 0x3F ∧ bytePressed 0x5E = 0b00001 ∧ byteTick 0x7F = true ∧ byteOvf 0x7F = true ∧
    byteRst 0x9F = true ∧ byteTick 0x1F = false := by decide
/-- A bare table word reaches the decoder, and the very next step runs what it selects. -/
theorem test_fetch_word : decodeTableWord 8 0b00010 = some .tPressed ∧ decodeTableWord 8 0x1C = some .actAdjBoth ∧
    decodeTableWord 16 0xB4B4 = some (.bset 180 180) := by decide
theorem test_fetch_step : field (step (State.reset.withFetchWord 16 0xB4B4)) (fun t => (t.req_la, t.req_lb, t.useq)) =
    some (180, 180, .uClr) := by decide

/-! ### RESET and the transition functions -/

/-- V-X4, V-X2: RESET in the middle of an update; the byte 0xDE, where `rst` wins over `tick`. -/
theorem test_reset : field (exec .reset { mk .buttonHeld on180 0 with useq := .uWrb, indicator := true })
      (fun t => (t.state, settingsOf t, t.useq, t.sync_en, t.indicator)) =
    some (.idle, off, .uIdle, false, false) := by decide
theorem test_reset_byte : field (applyStimulus (.edge 0xDE) (mk .buttonHeld on180 0)) (fun t => (t.state, settingsOf t)) =
    some (.idle, off) := by decide
/-- V-I2 and V-I1. -/
theorem test_idle_press : field (exec .tIdle (mk .idle off 0b00100)) (fun t => (t.state, t.db_cnt)) = some (.debouncing, 0) := by
  decide
theorem test_idle_none : field (exec .tIdle (mk .idle off 0)) (fun t => t.state) = some .idle := by decide
/-- V-D2 and V-D3, V-D4: the tenth count, the commit, the release that precedes it. -/
theorem test_debounce_counts : field (exec .tDebounce { mk .debouncing off 0b00001 with db_cnt := 9 })
      (fun t => (t.state, t.db_cnt, t.indicator)) = some (.debouncing, 10, false) := by decide
theorem test_debounce_commits : field (exec .tDebounce { mk .debouncing off 0b00001 with db_cnt := 10 })
      (fun t => (t.state, t.db_cnt, t.indicator)) = some (.buttonPressed, 0, true) ∧
    field (exec .tDebounce { mk .debouncing off 0 with db_cnt := 10 }) (fun t => (t.state, t.db_cnt, t.indicator)) =
      some (.idle, 0, false) := by decide
/-- V-P27 and V-P39: several buttons in one T_PRESSED. -/
theorem test_pressed_order : pressTick off 0b01011 =
    some (⟨true, .chCool, 181, .bAdjust⟩, (0, 181), true, true, .buttonHeld) := by decide
theorem test_pressed_all : pressTick on180 0b11111 =
    some (⟨false, .chWarm, 1, .bAdjust⟩, (1, 0), true, true, .buttonHeld) := by decide
/-- V-H4 and V-H12: the 349th held tick; buttons 0 to 2 never repeat. -/
theorem test_held_349 : heldTick ⟨true, .chBoth, 181, .bAdjust⟩ 348 15 0b01000 =
    some (⟨true, .chBoth, 181, .bAdjust⟩, (349, 15), (0, 0), false, .buttonHeld) := by decide
theorem test_held_no_repeat : heldTick on180 350 15 0b00001 = some (on180, (350, 15), (0, 0), false, .buttonHeld) ∧
    heldTick off 350 15 0b01000 = some (off, (350, 15), (0, 0), false, .buttonHeld) :=
  ⟨by decide, by decide⟩
/-- V-H17: no repeat on the release tick. -/
theorem test_held_release : heldTick ⟨true, .chBoth, 181, .bAdjust⟩ 349 15 0 =
    some (⟨true, .chBoth, 181, .bAdjust⟩, (0, 0), (0, 0), false, .buttonReleased) := by decide
/-- V-H5, V-H11: the repeat of the 350th tick; with buttons 3 and 4 only the increase. -/
theorem test_repeat_increase : heldTick ⟨true, .chBoth, 181, .bAdjust⟩ 349 15 0b01000 =
    some (⟨true, .chBoth, 182, .bAdjust⟩, (350, 0), (182, 182), true, .buttonHeld) := by decide
theorem test_repeat_both_held : heldTick ⟨true, .chBoth, 180, .bAdjust⟩ 350 14 0b11000 =
    some (⟨true, .chBoth, 181, .bAdjust⟩, (350, 0), (181, 181), true, .buttonHeld) := by decide
/-- V-H9 and V-H10. -/
theorem test_repeat_decrease : heldTick ⟨true, .chCool, 2, .bAdjust⟩ 349 15 0b10000 =
    some (⟨true, .chCool, 1, .bAdjust⟩, (350, 0), (0, 1), true, .buttonHeld) := by decide
theorem test_repeat_floor : heldTick ⟨true, .chCool, 1, .bAdjust⟩ 350 14 0b10000 =
    some (⟨true, .chCool, 1, .bAdjust⟩, (350, 0), (0, 1), true, .buttonHeld) := by decide
/-- V-R2: the port is not read. -/
theorem test_released : field (exec .tReleased { mk .buttonReleased off 0b00001 with indicator := true })
    (fun t => (t.state, t.indicator)) = some (.idle, false) := by decide

/-! ### The button sub-operations, each in its T_PRESSED tick -/

/-- V-P1 and V-P5: turn on; the turn-off case with `power_on` already 0. -/
theorem test_toggle_on : pressTick off 0b00001 = some (on180, (180, 180), true, true, .buttonHeld) := by decide
theorem test_toggle_off : pressTick ⟨false, .chCool, 5, .bAdjust⟩ 0b00001 =
    some (⟨false, .chNone, 0, .bToggleBoth⟩, (0, 0), true, false, .buttonHeld) := by decide
/-- V-P8. -/
theorem test_cool_only : pressTick on180 0b00010 = some (⟨true, .chCool, 180, .bCoolOnly⟩, (0, 180), true, true, .buttonHeld) := by
  decide
/-- V-P11. -/
theorem test_warm_only : pressTick ⟨true, .chCool, 77, .bCoolOnly⟩ 0b00100 =
    some (⟨true, .chWarm, 77, .bWarmOnly⟩, (77, 0), true, true, .buttonHeld) := by decide
/-- V-P14 and V-P15: the ceiling; nothing without a channel. -/
theorem test_increase_ceiling : pressTick ⟨true, .chBoth, 255, .bAdjust⟩ 0b01000 =
    some (⟨true, .chBoth, 255, .bAdjust⟩, (255, 255), true, true, .buttonHeld) := by decide
theorem test_increase_no_channel : pressTick off 0b01000 = some (off, (0, 0), false, true, .buttonHeld) := by decide
/-- V-P20 and V-P21: the floor, and a level of 0 left alone. -/
theorem test_decrease_floor : pressTick ⟨true, .chBoth, 1, .bAdjust⟩ 0b10000 =
    some (⟨true, .chBoth, 1, .bAdjust⟩, (1, 1), true, true, .buttonHeld) := by decide
theorem test_decrease_zero : pressTick ⟨false, .chCool, 0, .bCoolOnly⟩ 0b10000 =
    some (⟨false, .chCool, 0, .bAdjust⟩, (0, 0), true, true, .buttonHeld) := by decide

/-! ### The action cases (section 3.5 of the vectors) -/

/-- The request a case latches on a state with level 180. -/
def requestOf (i : Instr) : Option (Level × Level × Useq × Bool) :=
  field (exec i { mk .buttonPressed on180 0 with indicator := true }) fun t => (t.req_la, t.req_lb, t.useq, t.indicator)

theorem test_action_toggle : requestOf .actToggleOn = some (180, 180, .uClr, true) ∧
    requestOf .actToggleOff = some (180, 180, .uClr, false) := by decide
theorem test_action_single : requestOf .actCool = some (0, 180, .uClr, true) ∧ requestOf .actWarm = some (180, 0, .uClr, true) := by
  decide
theorem test_action_adjust : requestOf .actAdjBoth = some (180, 180, .uClr, true) ∧ requestOf .actAdjCool = some (0, 180, .uClr, true) ∧
    requestOf .actAdjWarm = some (180, 0, .uClr, true) := by decide
theorem test_action_empty : requestOf .actAdjNone = some (0, 0, .uIdle, true) ∧ requestOf .actNone = some (0, 0, .uIdle, true) := by
  decide

/-! ### The Brightness Engine (section 3.7 of the vectors) -/

/-- V-B1 and V-B16. -/
theorem test_bset : field (exec (.bset 180 0) State.reset) (fun t => (t.req_la, t.req_lb, t.useq, t.sync_en)) =
    some (180, 0, .uClr, false) := by decide
theorem test_bset_busy : exec (.bset 0 0) { State.reset with useq := .uWra } = .refused .requestWhileUpdating := rfl
/-- V-B10 to V-B12, V-B2. -/
theorem test_u_clr : field (exec .uClr { State.reset with useq := .uClr, sync_en := true }) (fun t => (t.useq, t.sync_en)) =
    some (.uWra, false) := by decide
/-- V-B3: `shadow_a` is `LUT_A[180]`, `shadow_b` is kept. -/
theorem test_u_wra : field (exec .uWra { State.reset with req_la := 180, req_lb := 7, shadow_b := 5 })
    (fun t => (t.shadow_a, t.shadow_b, t.useq)) = some (LUT_A 180, 5, .uWrb) := rfl
/-- V-B4. -/
theorem test_u_wrb : field (exec .uWrb { State.reset with req_la := 7, req_lb := 180, shadow_a := 5 })
    (fun t => (t.shadow_a, t.shadow_b, t.useq)) = some (5, LUT_B 180, .uSet) := rfl
/-- V-B5. -/
theorem test_u_set : field (exec .uSet { State.reset with useq := .uSet }) (fun t => (t.useq, t.sync_en, t.live_a)) =
    some (.uIdle, true, 0) := by decide
/-- V-B15: U_IDLE writes nothing, a UOP there is not allowed. -/
theorem test_u_idle : exec .uIdle State.reset = .next State.reset ∧ applyStimulus .uop State.reset = .refused .uopNotAllowed :=
  ⟨rfl, rfl⟩
/-- V-B6, V-B8 with the fixture's values. -/
theorem test_commit : field (applyStimulus .ovf { State.reset with sync_en := true, shadow_a := 2895, shadow_b := 1720 })
    (fun t => (t.live_a, t.live_b, t.sync_en)) = some (2895, 1720, true) := by decide
theorem test_commit_nop : field (applyStimulus .ovf { State.reset with shadow_a := 2895, shadow_b := 1720 })
    (fun t => (t.live_a, t.live_b)) = some (0, 0) := by decide
/-- Program P8 at cycle level: 0x3F with U_SET pending commits nothing, and performs U_SET. -/
theorem test_edge_ovf_before_set :
    field (applyStimulus (.edge 0x3F) { State.reset with useq := .uSet, shadow_a := 15, shadow_b := 1720, live_a := 2895 })
      (fun t => (t.live_a, t.sync_en, t.useq)) = some (2895, true, .uIdle) := by decide

/-! ### Witnesses: concrete inputs that meet the hypotheses of the statements, clause by clause -/

/-- A state whose next step takes the given stimulus. -/
def taking (x : Stimulus) (s : State) : State := { s with stimuli := [x] }

theorem witness_step_runs_the_decoded_operation :
    ((taking (.tick 1) State.reset).nextStimulus = .tick 1 ∧ decode .S State.reset.state.code = .ok [.tIdle]) ∧
    ((taking .uop { State.reset with useq := .uSet }).nextStimulus = .uop ∧ Useq.uSet ≠ .uIdle ∧
      decode .U Useq.uSet.code = .ok [.uSet]) ∧
    ((taking .ovf State.reset).nextStimulus = .ovf ∧ decode .V (wordV true State.reset.sync_en) = .ok [.commitNop]) ∧
    ((taking .reset State.reset).nextStimulus = .reset ∧ decode .E (wordE true false false) = .ok [.reset]) ∧
    (taking (.edge 0x1F) State.reset).nextStimulus = .edge 0x1F ∧ (taking .ovf State.reset).stimuli = [.ovf] :=
  ⟨⟨rfl, rfl⟩, ⟨rfl, by decide, rfl⟩, ⟨rfl, rfl⟩, ⟨rfl, rfl⟩, rfl, rfl⟩

theorem witness_tick_runs_the_function_of_the_current_state :
    (mk .idle off 0).state = .idle ∧ (mk .debouncing off 0).state = .debouncing ∧ (mk .buttonPressed off 0).state = .buttonPressed ∧
    (mk .buttonHeld off 0).state = .buttonHeld ∧ (mk .buttonReleased off 0).state = .buttonReleased := by decide

theorem witness_decode_of_encode : (Instr.bset 255 0).wellFormed = true ∧ (Instr.bset 255 0).format ≠ .P ∧
    Instr.btn4.wellFormed = true ∧ Instr.btn4.format = .P := by decide

theorem witness_rows_are_exclusive : Format.H ≠ .P ∧ decode .H 0b11111 = .ok [.repInc] ∧ decode .A 0b1_11_100 = .ok [.actAdjBoth] :=
  ⟨by decide, rfl, rfl⟩

theorem witness_reset_edge : (0x80#8).getLsbD 7 = true ∧ (0xFF#8).getLsbD 7 = true := by decide

theorem witness_idle_tick : (mk .idle off 0b10000).useq = .uIdle ∧ (mk .idle off 0b10000).p ≠ 0 ∧ (mk .idle off 0).p = 0 := by decide

theorem witness_debounce_tick :
    let s (n : BitVec 4) (q : Pressed) : State := { mk .debouncing off q with db_cnt := n }
    (s 10 1).useq = .uIdle ∧ (s 10 0).p = 0 ∧ ((s 10 1).p ≠ 0 ∧ 10 < (s 10 1).db_cnt.toNat + 1) ∧
    ((s 9 1).p ≠ 0 ∧ (s 9 1).db_cnt.toNat + 1 ≤ 10) := by decide

theorem witness_pressed_tick : (mk .buttonPressed off 0b01011).useq = .uIdle := by decide

theorem witness_toggle_button :
    (off.power_on = false ∧ off.channel = .chNone) ∧
    ((mk .buttonPressed ⟨true, .chWarm, 1, .bWarmOnly⟩ 1).power_on = true ∧
      (mk .buttonPressed ⟨true, .chWarm, 1, .bWarmOnly⟩ 1).channel = .chWarm) ∧
    (let s := mk .buttonPressed ⟨false, .chCool, 5, .bAdjust⟩ 1
     ¬ (s.power_on = false ∧ s.channel = .chNone) ∧ ¬ (s.power_on = true ∧ (s.channel = .chWarm ∨ s.channel = .chCool))) := by
  decide

theorem witness_adjust_buttons : (mk .buttonPressed off 0).channel = .chNone ∧
    (mk .buttonPressed ⟨true, .chBoth, 255, .bAdjust⟩ 0).channel ≠ .chNone := by decide

/-- Both sides of the threshold: 349 and 14 before the tick make a repeat due, 348 does not. -/
theorem witness_held_tick :
    let s (d : BitVec 9) (q : Pressed) : State := { mk .buttonHeld on180 q with hold_delay := d, hold_rate := 14 }
    let due (s : State) : Prop :=
      350 ≤ min 350 (s.hold_delay.toNat + 1) ∧ 15 ≤ min 15 (s.hold_rate.toNat + 1) ∧ s.channel ≠ .chNone
    (s 349 0).useq = .uIdle ∧ (s 349 0).p = 0 ∧ (due (s 349 8) ∧ (s 349 8).p.getLsbD 3 = true) ∧
    (due (s 349 16) ∧ (s 349 16).p.getLsbD 3 = false ∧ (s 349 16).p.getLsbD 4 = true) ∧
    ((s 348 8).p ≠ 0 ∧ ¬ (due (s 348 8) ∧ ((s 348 8).p.getLsbD 3 = true ∨ (s 348 8).p.getLsbD 4 = true))) := by decide

theorem witness_repeat : (mk .buttonHeld on180 8).useq = .uIdle := by decide

theorem witness_released_tick : (mk .buttonReleased off 31).useq = .uIdle := by decide

theorem witness_held_tick_ignores :
    (mk .buttonHeld on180 0b01001).p ≠ 0 ∧ (0b01110 : Pressed) ≠ 0 ∧
    (mk .buttonHeld on180 0b01001).p.getLsbD 3 = (0b01110 : Pressed).getLsbD 3 ∧
    (mk .buttonHeld on180 0b01001).p.getLsbD 4 = (0b01110 : Pressed).getLsbD 4 ∧
    (field (exec .tHeld (mk .buttonHeld on180 0b01001)) fun t => t.state) = some .buttonHeld := by decide

theorem witness_successors : (mk .buttonHeld off 0).useq = .uIdle ∧ FsmState.buttonReleased ∈ successors .buttonHeld ∧
    (field (applyStimulus (.tick 0) (mk .buttonHeld off 0)) fun t => t.state) = some .buttonReleased := by decide

/-- Ticks that do change `power_on`, `channel`, `level` in `ButtonPressed`, and `level` in `ButtonHeld`. -/
theorem witness_ticks_change_settings :
    (field (applyStimulus (.tick 1) (mk .buttonPressed off 0)) fun t => (t.power_on, t.channel, t.level)) = some (true, .chBoth, 180) ∧
    (field (applyStimulus (.tick 16) { mk .buttonHeld on180 0 with hold_delay := 349, hold_rate := 14 }) fun t => t.level) =
      some 179 := by decide

theorem witness_debounce_window :
    State.reset.state = .idle ∧ State.reset.useq = .uIdle ∧ (∀ q ∈ ([1] : List Pressed), q ≠ 0) ∧
    (∀ q ∈ List.replicate 11 (16 : Pressed), q ≠ 0) ∧ (List.replicate 11 (16 : Pressed)).length ≤ 11 ∧
    (∀ q ∈ List.replicate 12 (16 : Pressed), q ≠ 0) ∧ (List.replicate 12 (16 : Pressed)).length = 12 := by decide

theorem witness_typematic :
    let s := mk .buttonHeld on180 0
    s.state = .buttonHeld ∧ s.useq = .uIdle ∧ s.hold_delay = 0 ∧ s.hold_rate = 0 ∧ s.channel ≠ .chNone ∧
    (∀ q ∈ ([8, 24] : List Pressed), q.getLsbD 3 = true) ∧
    (∀ q ∈ ([16, 17] : List Pressed), q.getLsbD 3 = false ∧ q.getLsbD 4 = true) := by decide

/-- How many repeats R109 gives around its figures: none at 349, then at 350, 365, 380. -/
theorem test_repeats_after : repeatsAfter 349 = 0 ∧ repeatsAfter 350 = 1 ∧ repeatsAfter 364 = 1 ∧ repeatsAfter 365 = 2 ∧
    repeatsAfter 380 = 3 ∧ repeatsAfter 4145 = 254 := by decide

theorem witness_action_cases : (mk .buttonPressed on180 0).useq = .uIdle := by decide

theorem witness_action_is_a_function :
    (field (action (mk .buttonPressed on180 0)) fun t => t.useq) = some .uClr ∧
    (field (action { mk .buttonHeld on180 3 with sync_en := true }) fun t => t.useq) = some .uClr ∧
    (mk .buttonPressed on180 0).level = { mk .buttonHeld on180 3 with sync_en := true }.level := by decide

theorem witness_request : State.reset.useq = .uIdle ∧ { State.reset with useq := .uSet }.useq ≠ .uIdle := by decide

theorem witness_overflow : { State.reset with sync_en := true }.sync_en = true ∧ State.reset.sync_en = false := by decide

theorem witness_request_reaches_the_outputs : (mk .idle on180 0).useq = .uIdle ∧ (254 : Level).toNat ≤ (255 : Level).toNat := by decide

theorem witness_protocol : { State.reset with useq := .uClr, sync_en := true }.useq = .uClr := by decide

theorem witness_tables : (254 : Level).toNat < 255 := by decide

theorem witness_only_ticks :
    (Instr.actToggleOff.format = .A ∧ (field (exec .actToggleOff State.reset) fun t => t.useq) = some .uClr) ∧
    ((Instr.bset 1 2).format = .B ∧ (field (exec (.bset 1 2) State.reset) fun t => t.useq) = some .uClr) ∧
    (Instr.uSet.format = .U ∧ (field (exec .uSet State.reset) fun t => t.sync_en) = some true) ∧
    (Instr.commit.format = .V ∧ (field (exec .commit State.reset) fun t => t.state) = some .idle) ∧
    ((0x3F#8).getLsbD 7 = false ∧ (0x3F#8).getLsbD 6 = false ∧ (field (applyStimulus (.edge 0x3F) State.reset) fun t => t.state) = some .idle) ∧
    (field (applyStimulus .uop { State.reset with useq := .uSet }) fun t => t.useq) = some .uIdle ∧
    (field (applyStimulus .ovf State.reset) fun t => t.useq) = some .uIdle := by decide

/-- The operations that do change the indicator. -/
theorem witness_indicator :
    (field (exec .tDebounce { mk .debouncing off 1 with db_cnt := 10 }) fun t => (t.indicator, t.state)) =
      some (true, .buttonPressed) ∧
    (field (exec .tReleased { State.reset with indicator := true }) fun t => t.indicator) = some false ∧
    (field (exec .actToggleOff { State.reset with indicator := true }) fun t => t.indicator) = some false ∧
    (field (exec .tPressed { mk .buttonPressed on180 1 with indicator := true }) fun t => t.indicator) = some false ∧
    (field (exec .reset { State.reset with indicator := true }) fun t => t.indicator) = some false := by decide

/-- The operations that do change `sync_en` and the live pair. -/
theorem witness_brightness_writers :
    (field (exec .uClr { State.reset with sync_en := true }) fun t => t.sync_en) = some false ∧
    (field (exec .uSet State.reset) fun t => t.sync_en) = some true ∧
    (field (exec .commit { State.reset with shadow_a := 1, shadow_b := 2 }) fun t => (t.live_a, t.live_b)) = some (1, 2) ∧
    Instr.commit ≠ .reset := by decide

/-- And the shadow registers: a shadow register one above its table entry is changed by its write. -/
theorem witness_shadow_writers :
    (∃ t, exec .uWra { State.reset with shadow_a := LUT_A 0 + 1 } = .next t ∧ t.shadow_a ≠ LUT_A 0 + 1) ∧
    (∃ t, exec .uWrb { State.reset with shadow_b := LUT_B 0 + 1 } = .next t ∧ t.shadow_b ≠ LUT_B 0 + 1) := by
  have h : ∀ x : Target, x ≠ x + 1 := by intro x; bv_omega
  exact ⟨⟨_, rfl, h (LUT_A 0)⟩, ⟨_, rfl, h (LUT_B 0)⟩⟩

theorem witness_requests :
    (field (applyStimulus (.tick 1) (mk .buttonPressed off 0)) fun t => t.useq) = some .uClr ∧
    (field (applyStimulus (.tick 8) { mk .buttonHeld on180 0 with hold_delay := 349, hold_rate := 14 }) fun t => t.useq) =
      some .uClr := by decide

theorem witness_ticks_ignore : (field (applyStimulus (.tick 1) (mk .buttonPressed off 0)) fun t => t.level) = some 180 := by decide

theorem witness_ticks_while_updating : { State.reset with useq := .uClr }.useq ≠ .uIdle ∧ Instr.tHeld.format = .S ∧
    (0x5E#8).getLsbD 7 = false ∧ (0x5E#8).getLsbD 6 = true ∧ (mk .buttonHeld on180 8).channel ≠ .chNone := by decide

theorem witness_admissible : ¬ Admissible (.tick 0) { State.reset with useq := .uClr } ∧ ¬ Admissible .uop State.reset ∧
    ¬ Admissible (.edge 0x5F) { State.reset with useq := .uClr } ∧ Admissible (.edge 0x1F) { State.reset with useq := .uClr } := by
  simp [Admissible, State.reset, byteRst, byteTick]

/-- One byte for each clause. -/
theorem witness_edge :
    (0xDE#8).getLsbD 7 = true ∧ ((0x5E#8).getLsbD 7 = false ∧ (0x5E#8).getLsbD 6 = true ∧ (0x5E#8).getLsbD 5 = false) ∧
    ((0x7F#8).getLsbD 7 = false ∧ (0x7F#8).getLsbD 6 = true ∧ (0x7F#8).getLsbD 5 = true) ∧
    ((0x3F#8).getLsbD 7 = false ∧ (0x3F#8).getLsbD 6 = false ∧ (0x3F#8).getLsbD 5 = true) ∧
    ((0x1F#8).getLsbD 7 = false ∧ (0x1F#8).getLsbD 6 = false ∧ (0x1F#8).getLsbD 5 = false) ∧
    { State.reset with useq := .uWra }.useq ≠ .uIdle ∧ State.reset.useq = .uIdle := by decide

theorem witness_stimulus_bytes : (4 : Nat) < 5 ∧ State.reset.useq = .uIdle ∧ { State.reset with useq := .uSet }.useq ≠ .uIdle := by
  decide

theorem witness_four_edges :
    (field (applyStimulus (.tick 1) (mk .buttonPressed off 0)) fun t => t.useq) = some .uClr ∧
    (∀ v ∈ ([0x3F, 0x1F, 0x3F, 0x00, 0x3F] : List (BitVec 8)), v.getLsbD 7 = false ∧ v.getLsbD 6 = false) ∧
    (0x3F#8).getLsbD 5 = true := by decide

/-- A state with the lamp on, about to be switched off by a tick, meets the invariants and has a next state. -/
theorem witness_invariants :
    let s := taking (.tick 1) (mk .buttonPressed on180 0)
    SettingsInv s ∧ CountersInv s ∧ FlagInv s ∧ PairingInv .fresh s ∧ ∃ t, step s = .next t := by
  refine ⟨?_, ?_, ?_, ?_, _, rfl⟩
  · constructor <;> decide
  · constructor <;> decide
  · simp [FlagInv, taking, mk, State.reset]
  · constructor <;> simp [taking, mk, State.reset, History.fresh]

/-- A step that writes a shadow register in a state that meets the flag's invariant. -/
theorem witness_shadow_write : FlagInv (taking .uop { State.reset with useq := .uWra, shadow_a := LUT_A 0 + 1 }) ∧
    ∃ t, step (taking .uop { State.reset with useq := .uWra, shadow_a := LUT_A 0 + 1 }) = .next t ∧ t.shadow_a ≠ LUT_A 0 + 1 := by
  have h : ∀ x : Target, x ≠ x + 1 := by intro x; bv_omega
  exact ⟨by simp [FlagInv, taking, State.reset], _, rfl, h (LUT_A 0)⟩

theorem witness_every_run : ∃ t, applyAll [.tick 1, .ovf, .edge 0x1F, .reset] State.reset = .next t := ⟨_, rfl⟩

end Sys2Proof.Tests
end

section
/-!
SUPPORT. What an operation can do, said once per format of the dispatch table (R47): the state it leaves, and so what it keeps.
-/

namespace Sys2Proof.Machine

variable {i : Instr} {s t : State}

/-- Formats A and B, the Action Dispatcher and BSET: the request latch, the sequencer's step and, by the toggle-off case alone, the
indicator (R69 to R79). -/
theorem exec_request_shape (hf : i.format = .A ∨ i.format = .B) (h : exec i s = .next t) :
    ∃ la lb u ind, t = { s with req_la := la, req_lb := lb, useq := u, indicator := ind } ∧
      (ind = s.indicator ∨ i = .actToggleOff ∧ ind = false) := by
  cases i with
  | actAdjNone | actNone =>
    cases h
    exact ⟨_, _, _, _, rfl, .inl rfl⟩
  | actToggleOff =>
    obtain ⟨-, rfl⟩ := request_next_iff.1 h
    exact ⟨_, _, _, _, rfl, .inr ⟨rfl, rfl⟩⟩
  | actToggleOn | actCool | actWarm | actAdjBoth | actAdjCool | actAdjWarm | bset =>
    obtain ⟨-, rfl⟩ := request_next_iff.1 h
    exact ⟨_, _, _, _, rfl, .inl rfl⟩
  | _ => simp [Instr.format] at hf

/-- Format P, the button sub-operations: the settings other than `state` (R58 to R62). -/
theorem exec_button_shape (hf : i.format = .P) (h : exec i s = .next t) :
    ∃ b pw c l, t = { s with button := b, power_on := pw, channel := c, level := l } := by
  cases i with
  | btn0 =>
    cases h
    unfold btn0
    split_ifs <;> exact ⟨_, _, _, _, rfl⟩
  | btn1 | btn2 =>
    cases h
    exact ⟨_, _, _, _, rfl⟩
  | btn3 =>
    cases h
    unfold btn3
    split_ifs <;> exact ⟨_, _, _, _, rfl⟩
  | btn4 =>
    cases h
    unfold btn4
    split_ifs <;> exact ⟨_, _, _, _, rfl⟩
  | _ => cases hf

/-- Format H, the held sub-operations: release, or a typematic repeat (R63 to R65). -/
theorem exec_held_shape (hf : i.format = .H) (h : exec i s = .next t) :
    ∃ st b l d r la lb u, t = { s with
      state := st, button := b, level := l, hold_delay := d, hold_rate := r, req_la := la, req_lb := lb, useq := u } := by
  cases i with
  | heldRelease =>
    cases h
    exact ⟨_, _, _, _, _, _, _, _, rfl⟩
  | repInc | repDec =>
    obtain ⟨la, lb, u, rfl, -⟩ := repeatAdjust_frame h
    exact ⟨_, _, _, _, _, _, _, _, rfl⟩
  | _ => cases hf

/-- T_HELD is made of its counting and the held sub-operations, so it writes no more than these (R63). -/
theorem tHeld_shape (h : exec .tHeld s = .next t) :
    ∃ st b l d r la lb u, t = { s with
      state := st, button := b, level := l, hold_delay := d, hold_rate := r, req_la := la, req_lb := lb, useq := u } := by
  rcases (tHeld_next h).2 with ⟨-, rfl⟩ | ⟨-, -, -, hr⟩ | ⟨-, -, -, -, hr⟩ | ⟨-, -, rfl⟩
  · exact ⟨_, _, _, _, _, _, _, _, rfl⟩
  · obtain ⟨la, lb, u, rfl, -⟩ := repeatAdjust_frame hr
    exact ⟨_, _, _, _, _, _, _, _, rfl⟩
  · obtain ⟨la, lb, u, rfl, -⟩ := repeatAdjust_frame hr
    exact ⟨_, _, _, _, _, _, _, _, rfl⟩
  · exact ⟨_, _, _, _, _, _, _, _, rfl⟩

/-- T_PRESSED ends in `ButtonHeld` with both hold counters 0 and the settings the buttons made; it requests, and it switches the
indicator off only where it leaves the toggled lamp off (R57, R71). -/
theorem tPressed_shape (h : exec .tPressed s = .next t) :
    ∃ la lb u ind, t = { pressedButtons s with
        state := .buttonHeld, hold_delay := 0, hold_rate := 0, req_la := la, req_lb := lb, useq := u, indicator := ind } ∧
      (ind = s.indicator ∨ ind = false ∧ t.button = .bToggleBoth ∧ t.power_on = false) := by
  obtain ⟨-, m, hm, rfl⟩ := tPressed_next h
  obtain ⟨la, lb, u, ind, rfl, hind, -⟩ := action_shape hm
  have hkeep : (pressedButtons s).indicator = s.indicator := by
    obtain ⟨b, pw, c, l, e⟩ := pressedButtons_frame s
    rw [e]
  exact ⟨la, lb, u, ind, rfl, hkeep ▸ hind⟩

/-- Format U, the micro-operations: each writes the sequencer's step and at most its one register (R81 to R84, R88). -/
theorem exec_sequencer_shape (hf : i.format = .U) (h : exec i s = .next t) :
    ∃ e a b u, t = { s with sync_en := e, shadow_a := a, shadow_b := b, useq := u } ∧
      (e = s.sync_en ∨ i = .uClr ∧ e = false ∨ i = .uSet ∧ e = true) ∧
      (a = s.shadow_a ∨ i = .uWra) ∧ (b = s.shadow_b ∨ i = .uWrb) := by
  cases i with
  | uIdle =>
    cases h
    exact ⟨_, _, _, _, rfl, .inl rfl, .inl rfl, .inl rfl⟩
  | uClr =>
    cases h
    exact ⟨_, _, _, _, rfl, .inr (.inl ⟨rfl, rfl⟩), .inl rfl, .inl rfl⟩
  | uWra =>
    cases h
    exact ⟨_, _, _, _, rfl, .inl rfl, .inr rfl, .inl rfl⟩
  | uWrb =>
    cases h
    exact ⟨_, _, _, _, rfl, .inl rfl, .inl rfl, .inr rfl⟩
  | uSet =>
    cases h
    exact ⟨_, _, _, _, rfl, .inr (.inr ⟨rfl, rfl⟩), .inl rfl, .inl rfl⟩
  | _ => cases hf

/-- Format V, the overflow operations: COMMIT copies the shadow pair to the live pair, COMMIT_NOP does nothing (R85). -/
theorem exec_overflow_shape (hf : i.format = .V) (h : exec i s = .next t) :
    t = s ∨ i = .commit ∧ t = s.setLive s.shadow_a s.shadow_b := by
  cases i with
  | commit =>
    cases h
    exact .inr ⟨rfl, rfl⟩
  | commitNop =>
    cases h
    exact .inl rfl
  | _ => cases hf

/-- The operation of a value of `useq` is one of format U. -/
@[simp] theorem useq_op_format (u : Useq) : u.op.format = .U := by cases u <;> rfl

/-- The Action Dispatcher and the Brightness Engine write no setting (R13). -/
theorem exec_keeps_settings (hf : i.format = .A ∨ i.format = .B ∨ i.format = .U ∨ i.format = .V) (h : exec i s = .next t) :
    t.settings = s.settings := by
  rw [← or_assoc] at hf
  rcases hf with hAB | hU | hV
  · obtain ⟨_, _, _, _, rfl, -⟩ := exec_request_shape hAB h
    rfl
  · obtain ⟨_, _, _, _, rfl, -⟩ := exec_sequencer_shape hU h
    rfl
  · rcases exec_overflow_shape hV h with rfl | ⟨-, rfl⟩ <;> rfl

/-- The flag, the shadow pair and the live pair: what the update protocol writes (R24 to R26). -/
def State.pwmRegisters (s : State) : Bool × (Target × Target) × (Target × Target) :=
  (s.sync_en, (s.shadow_a, s.shadow_b), (s.live_a, s.live_b))

/-- Equal `pwmRegisters` are equal register by register. -/
theorem pwmRegisters_eq_iff : t.pwmRegisters = s.pwmRegisters ↔
    t.sync_en = s.sync_en ∧ (t.shadow_a = s.shadow_a ∧ t.shadow_b = s.shadow_b) ∧ t.live_a = s.live_a ∧ t.live_b = s.live_b := by
  simp [State.pwmRegisters]

/-- No transition function writes a register of the update protocol (R89). -/
theorem transition_keeps_pwmRegisters (hf : i.format = .S) (h : exec i s = .next t) : t.pwmRegisters = s.pwmRegisters := by
  cases i with
  | tIdle => rcases (tIdle_next h).2 with ⟨-, rfl⟩ | ⟨-, rfl⟩ <;> rfl
  | tDebounce => rcases (tDebounce_next h).2 with ⟨-, rfl⟩ | ⟨-, -, rfl⟩ | ⟨-, -, rfl⟩ <;> rfl
  | tPressed =>
    obtain ⟨_, _, _, _, rfl, -⟩ := tPressed_shape h
    obtain ⟨_, _, _, _, e⟩ := pressedButtons_frame s
    rw [e]
    rfl
  | tHeld =>
    obtain ⟨_, _, _, _, _, _, _, _, rfl⟩ := tHeld_shape h
    rfl
  | tReleased =>
    obtain ⟨-, rfl⟩ := tReleased_next h
    rfl
  | _ => cases hf

/-- An operation that writes a register of the update protocol is of format U or V, or it is RESET. -/
theorem exec_keeps_pwmRegisters (hU : i.format ≠ .U) (hV : i.format ≠ .V) (hE : i ≠ .reset) (h : exec i s = .next t) :
    t.pwmRegisters = s.pwmRegisters := by
  cases hf : i.format with
  | E =>
    cases i with
    | reset => exact absurd rfl hE
    | _ => cases hf
  | S => exact transition_keeps_pwmRegisters hf h
  | P =>
    obtain ⟨_, _, _, _, rfl⟩ := exec_button_shape hf h
    rfl
  | H =>
    obtain ⟨_, _, _, _, _, _, _, _, rfl⟩ := exec_held_shape hf h
    rfl
  | A =>
    obtain ⟨_, _, _, _, rfl, -⟩ := exec_request_shape (.inl hf) h
    rfl
  | B =>
    obtain ⟨_, _, _, _, rfl, -⟩ := exec_request_shape (.inr hf) h
    rfl
  | U => exact absurd hf hU
  | V => exact absurd hf hV

end Sys2Proof.Machine
end

section
/-!
SUPPORT. What the buttons do to the single settings: each keeps the settings it does not name, and so does the scan of T_PRESSED.
-/

namespace Sys2Proof.Machine

variable {s t : State}

@[simp] theorem btn1_power_on (s : State) : (btn1 s).power_on = s.power_on := rfl
@[simp] theorem btn1_level (s : State) : (btn1 s).level = s.level := rfl
@[simp] theorem btn2_power_on (s : State) : (btn2 s).power_on = s.power_on := rfl
@[simp] theorem btn2_level (s : State) : (btn2 s).level = s.level := rfl
@[simp] theorem btn3_power_on (s : State) : (btn3 s).power_on = s.power_on := by unfold btn3; split_ifs <;> rfl
@[simp] theorem btn3_channel (s : State) : (btn3 s).channel = s.channel := by unfold btn3; split_ifs <;> rfl
@[simp] theorem btn4_power_on (s : State) : (btn4 s).power_on = s.power_on := by unfold btn4; split_ifs <;> rfl
@[simp] theorem btn4_channel (s : State) : (btn4 s).channel = s.channel := by unfold btn4; split_ifs <;> rfl

/-- The scan changes `power_on` only by button 0 (R16). -/
theorem pressed_of_power_on_ne (h : (pressedButtons s).power_on ≠ s.power_on) : s.pressed 0 = true := by
  by_contra hno
  exact h (pressedButtons_induct (P := fun u => u.power_on = s.power_on) s (fun h0 => absurd h0 hno) (by simp) (by simp)
    (by simp) (by simp) rfl)

/-- The scan changes `channel` only by buttons 0, 1 and 2 (R17). -/
theorem pressed_of_channel_ne (h : (pressedButtons s).channel ≠ s.channel) :
    s.pressed 0 = true ∨ s.pressed 1 = true ∨ s.pressed 2 = true := by
  by_contra hno
  exact h (pressedButtons_induct (P := fun u => u.channel = s.channel) s (fun h0 => absurd (.inl h0) hno)
    (fun h1 => absurd (.inr (.inl h1)) hno) (fun h2 => absurd (.inr (.inr h2)) hno) (by simp) (by simp) rfl)

/-- The scan changes `level` only by buttons 0, 3 and 4 (R18). -/
theorem pressed_of_level_ne (h : (pressedButtons s).level ≠ s.level) :
    s.pressed 0 = true ∨ s.pressed 3 = true ∨ s.pressed 4 = true := by
  by_contra hno
  exact h (pressedButtons_induct (P := fun u => u.level = s.level) s (fun h0 => absurd (.inl h0) hno) (by simp) (by simp)
    (fun h3 => absurd (.inr (.inl h3)) hno) (fun h4 => absurd (.inr (.inr h4)) hno) rfl)

/-- T_HELD changes `level` only with button 3 or 4 down (R67). -/
theorem tHeld_level (h : exec .tHeld s = .next t) (hl : t.level ≠ s.level) : s.pressed 3 = true ∨ s.pressed 4 = true := by
  rcases (tHeld_next h).2 with ⟨-, rfl⟩ | ⟨-, h3, -⟩ | ⟨-, -, h4, -⟩ | ⟨-, -, rfl⟩
  · exact absurd rfl hl
  · exact .inl h3
  · exact .inr h4
  · exact absurd rfl hl

/-- A transition function other than T_PRESSED and T_HELD leaves `button`, `power_on`, `channel` and `level` alone. -/
theorem transition_keeps_lamp (hp : s.state ≠ .buttonPressed) (hh : s.state ≠ .buttonHeld) (h : exec s.state.op s = .next t) :
    t.button = s.button ∧ t.power_on = s.power_on ∧ t.channel = s.channel ∧ t.level = s.level := by
  cases hst : s.state with
  | idle =>
    rw [hst] at h
    rcases (tIdle_next h).2 with ⟨-, rfl⟩ | ⟨-, rfl⟩ <;> exact ⟨rfl, rfl, rfl, rfl⟩
  | debouncing =>
    rw [hst] at h
    rcases (tDebounce_next h).2 with ⟨-, rfl⟩ | ⟨-, -, rfl⟩ | ⟨-, -, rfl⟩ <;> exact ⟨rfl, rfl, rfl, rfl⟩
  | buttonPressed => exact absurd hst hp
  | buttonHeld => exact absurd hst hh
  | buttonReleased =>
    rw [hst] at h
    obtain ⟨-, rfl⟩ := tReleased_next h
    exact ⟨rfl, rfl, rfl, rfl⟩

end Sys2Proof.Machine
end

section
/-!
SUPPORT. One rule for the invariants of the registers the Button State Machine owns: RESET sets them, a tick is checked, and nothing
else reaches them.
-/

namespace Sys2Proof.Machine

variable {s t : State}

/-- The registers only RESET and ticks write: the settings and the three counters (R13, R20, R21). -/
def State.bsmRegisters (s : State) : LampSettings × BitVec 4 × BitVec 9 × BitVec 4 :=
  (s.settings, s.db_cnt, s.hold_delay, s.hold_rate)

@[simp] theorem takeStimulus_bsmRegisters (s : State) : s.takeStimulus.bsmRegisters = s.bsmRegisters := by
  unfold State.takeStimulus
  split <;> rfl

/-- A micro-operation writes no register of the Button State Machine. -/
theorem sequencer_keeps_bsmRegisters (h : exec s.useq.op s = .next t) : t.bsmRegisters = s.bsmRegisters := by
  obtain ⟨_, _, _, _, rfl, -⟩ := exec_sequencer_shape (useq_op_format s.useq) h
  rfl

/-- A property of the Button State Machine's registers that holds after a reset and that ticks keep, every step keeps. -/
theorem step_keeps_of_tick_keeps {P : State → Prop}
    (hcongr : ∀ s t : State, t.bsmRegisters = s.bsmRegisters → P s → P t) (hreset : P State.reset)
    (htick : ∀ s t : State, P s → exec s.state.op s = .next t → P t) (hs : P s) (h : step s = .next t) : P t := by
  refine applyStimulus_keeps (P := P) ?reset ?tick ?upd ?commit (hcongr s _ (takeStimulus_bsmRegisters s) hs) h
  case reset =>
    intro u v _ hv
    cases hv
    exact hcongr State.reset _ rfl hreset
  case tick => exact fun q u v hu hv => htick (u.samplePort q) v (hcongr u _ rfl hu) hv
  case upd => exact fun u v hu hv => hcongr u v (sequencer_keeps_bsmRegisters hv) hu
  case commit => exact fun u hu _ => hcongr u _ rfl hu

end Sys2Proof.Machine
end

section
/-!
SUPPORT. The invariants of the settings record: the buttons and the repeats keep them, and so does every tick (R19).
-/

namespace Sys2Proof.Safety

open Sys2Proof.Machine

variable {s t : State}

/-- The invariant speaks of `button`, `power_on`, `channel` and `level` only. -/
theorem SettingsInv.of_eq (hs : SettingsInv s) (hb : t.button = s.button) (hp : t.power_on = s.power_on)
    (hc : t.channel = s.channel) (hl : t.level = s.level) : SettingsInv t := by
  constructor
  · rw [hp, hc, hl]; exact hs.on_active
  · rw [hb, hc]; exact hs.cool
  · rw [hb, hc]; exact hs.warm
  · rw [hb, hp, hc]; exact hs.toggle
  · rw [hb, hc]; exact hs.adjust
  · rw [hb, hc]; exact hs.none

theorem SettingsInv.of_settings_eq (hs : SettingsInv s) (h : t.settings = s.settings) : SettingsInv t := by
  simp only [State.settings, LampSettings.mk.injEq] at h
  obtain ⟨-, hb, hp, hc, hl⟩ := h
  exact hs.of_eq hb hp hc hl

theorem settingsInv_reset : SettingsInv State.reset := by constructor <;> decide

/-- An increased level is never 0 (R53 (a)). -/
theorem one_le_satInc (l : Level) : 1 ≤ (satInc l).toNat := by
  unfold satInc LEVEL_MAX
  split_ifs
  · decide
  · bv_omega

/-- A decreased level stays positive where it was (R53 (b)). -/
theorem one_le_floorDec {l : Level} (h : 1 ≤ l.toNat) : 1 ≤ (floorDec l).toNat := by
  unfold floorDec LEVEL_MIN
  split_ifs
  · bv_omega
  · exact h

/-- An adjustment with a channel active, to a level that stays positive on a lit lamp (R61, R62, R64, R65). -/
theorem SettingsInv.adjusted (hs : SettingsInv s) {l : Level} (hc : s.channel ≠ .chNone)
    (hl : 1 ≤ s.level.toNat → 1 ≤ l.toNat) : SettingsInv ((s.setLevel l).setButton .bAdjust) := by
  constructor
  case on_active => exact fun hp => ⟨hc, hl (hs.on_active hp).2⟩
  all_goals simp [hc]

/-- BTN0's three cases are the ways `B_ToggleBoth` can stand in R19 (b). -/
theorem SettingsInv.btn0 (hs : SettingsInv s) : SettingsInv (btn0 s) := by
  unfold Machine.btn0
  split_ifs with hon hwide
  · constructor <;> simp [DEFAULT_LEVEL]
  · have hp : s.power_on = true := by
      simp only [State.widens, Bool.and_eq_true] at hwide
      exact hwide.1
    constructor
    case on_active => exact fun _ => ⟨by simp, (hs.on_active hp).2⟩
    all_goals simp [hp]
  · constructor <;> simp

theorem SettingsInv.btn1 (hs : SettingsInv s) : SettingsInv (btn1 s) := by
  constructor
  case on_active => exact fun hp => ⟨by simp [Machine.btn1], (hs.on_active hp).2⟩
  all_goals simp [Machine.btn1]

theorem SettingsInv.btn2 (hs : SettingsInv s) : SettingsInv (btn2 s) := by
  constructor
  case on_active => exact fun hp => ⟨by simp [Machine.btn2], (hs.on_active hp).2⟩
  all_goals simp [Machine.btn2]

theorem SettingsInv.btn3 (hs : SettingsInv s) : SettingsInv (btn3 s) := by
  unfold Machine.btn3
  split_ifs with hc
  · exact hs.adjusted (by simpa [State.channelActive] using hc) fun _ => one_le_satInc s.level
  · exact hs

theorem SettingsInv.btn4 (hs : SettingsInv s) : SettingsInv (btn4 s) := by
  unfold Machine.btn4
  split_ifs with hc
  · exact hs.adjusted (by simpa [State.channelActive] using hc) one_le_floorDec
  · exact hs

theorem SettingsInv.pressedButtons (hs : SettingsInv s) : SettingsInv (pressedButtons s) :=
  pressedButtons_induct s (fun _ _ => btn0) (fun _ _ => btn1) (fun _ _ => btn2) (fun _ _ => btn3) (fun _ _ => btn4) hs

/-- A due repeat, which by its guard has a channel active. -/
theorem SettingsInv.repeated (hs : SettingsInv s) {l : Level} (hdue : s.repeatDue = true)
    (hl : 1 ≤ s.level.toNat → 1 ≤ l.toNat) (h : repeatAdjust l (countHeld s) = .next t) : SettingsInv t := by
  obtain ⟨-, -, hc⟩ := repeatDue_iff.1 hdue
  obtain ⟨-, la, lb, rfl⟩ := repeatAdjust_shape h hc
  exact (hs.adjusted hc hl).of_eq rfl rfl rfl rfl

theorem SettingsInv.tHeld (hs : SettingsInv s) (h : exec .tHeld s = .next t) : SettingsInv t := by
  rcases (tHeld_next h).2 with ⟨-, rfl⟩ | ⟨-, -, hdue, hr⟩ | ⟨-, -, -, hdue, hr⟩ | ⟨-, -, rfl⟩
  · exact hs.of_eq rfl rfl rfl rfl
  · exact hs.repeated hdue (fun _ => one_le_satInc s.level) hr
  · exact hs.repeated hdue one_le_floorDec hr
  · exact hs.of_eq rfl rfl rfl rfl

theorem SettingsInv.tPressed (hs : SettingsInv s) (h : exec .tPressed s = .next t) : SettingsInv t := by
  obtain ⟨_, _, _, _, rfl, -⟩ := tPressed_shape h
  exact hs.pressedButtons.of_eq rfl rfl rfl rfl

/-- Every transition function keeps the invariants of the settings. -/
theorem SettingsInv.tick (hs : SettingsInv s) (h : exec s.state.op s = .next t) : SettingsInv t := by
  by_cases hp : s.state = .buttonPressed
  · exact hs.tPressed (by rwa [hp] at h)
  by_cases hh : s.state = .buttonHeld
  · exact hs.tHeld (by rwa [hh] at h)
  obtain ⟨hb, hpw, hc, hl⟩ := transition_keeps_lamp hp hh h
  exact hs.of_eq hb hpw hc hl

end Sys2Proof.Safety
end

section
/-!
SUPPORT. The ranges of the counters, transition function by transition function (R20, R21).
-/

namespace Sys2Proof.Safety

open Sys2Proof.Machine

variable {s t : State}

/-- The invariant speaks of `state` and the three counters only. -/
theorem CountersInv.of_eq (hs : CountersInv s) (hst : t.state = s.state) (hdb : t.db_cnt = s.db_cnt)
    (hd : t.hold_delay = s.hold_delay) (hr : t.hold_rate = s.hold_rate) : CountersInv t := by
  constructor
  · rw [hdb]; exact hs.db_range
  · rw [hst, hdb]; exact hs.db_zero
  · rw [hd]; exact hs.delay_range
  · rw [hr]; exact hs.rate_range
  · rw [hst, hd, hr]; exact hs.hold_zero

theorem countersInv_reset : CountersInv State.reset := by constructor <;> decide

/-- With all three counters 0 the invariant holds in any state. -/
theorem countersInv_of_zero (hdb : s.db_cnt = 0) (hd : s.hold_delay = 0) (hr : s.hold_rate = 0) : CountersInv s := by
  constructor <;> simp [hdb, hd, hr]

theorem CountersInv.tIdle (hs : CountersInv s) (hst : s.state = .idle) (h : exec .tIdle s = .next t) : CountersInv t := by
  obtain ⟨hd, hr⟩ := hs.hold_zero (by simp [hst])
  rcases (tIdle_next h).2 with ⟨-, rfl⟩ | ⟨-, rfl⟩
  · exact hs
  · exact countersInv_of_zero rfl hd hr

/-- A count that goes on is at most 10, since T_DEBOUNCE commits at the eleventh (R56). -/
theorem CountersInv.tDebounce (hs : CountersInv s) (hst : s.state = .debouncing) (h : exec .tDebounce s = .next t) :
    CountersInv t := by
  obtain ⟨hd, hr⟩ := hs.hold_zero (by simp [hst])
  rcases (tDebounce_next h).2 with ⟨-, rfl⟩ | ⟨-, -, rfl⟩ | ⟨-, hgo, rfl⟩
  · exact countersInv_of_zero rfl hd hr
  · exact countersInv_of_zero rfl hd hr
  · have hlt : s.db_cnt.toNat < 10 := by
      by_contra hge
      simp [debounceDone_iff.2 (Nat.le_of_not_lt hge)] at hgo
    constructor
    case db_range =>
      simp only [State.setDbCnt_db_cnt, BitVec.toNat_ofNat]
      omega
    all_goals simp [hst, hd, hr]

/-- T_PRESSED leaves the debounce counter, which is 0 there, and clears both hold counters (R57). -/
theorem CountersInv.tPressed (hs : CountersInv s) (hst : s.state = .buttonPressed) (h : exec .tPressed s = .next t) :
    CountersInv t := by
  obtain ⟨_, _, _, _, rfl, -⟩ := tPressed_shape h
  refine countersInv_of_zero ?_ rfl rfl
  obtain ⟨_, _, _, _, e⟩ := pressedButtons_frame s
  rw [e]
  exact hs.db_zero (by simp [hst])

/-- The counting of T_HELD saturates at the limits of R21. -/
theorem CountersInv.countHeld (hs : CountersInv s) (hst : s.state = .buttonHeld) : CountersInv (countHeld s) := by
  constructor
  · exact hs.db_range
  · exact hs.db_zero
  · exact (nextHoldDelay_fits s).trans_le (Nat.min_le_left _ _)
  · exact (nextHoldRate_fits s).trans_le (Nat.min_le_left _ _)
  · exact fun hne => absurd hst hne

/-- A repeat clears the rate counter and keeps the others (R64, R65). -/
theorem CountersInv.repeated (hs : CountersInv s) {l : Level} (h : repeatAdjust l s = .next t) : CountersInv t := by
  obtain ⟨_, _, _, rfl, -⟩ := repeatAdjust_frame h
  exact ⟨hs.db_range, hs.db_zero, hs.delay_range, Nat.zero_le _, fun hne => ⟨(hs.hold_zero hne).1, rfl⟩⟩

theorem CountersInv.tHeld (hs : CountersInv s) (hst : s.state = .buttonHeld) (h : exec .tHeld s = .next t) :
    CountersInv t := by
  rcases (tHeld_next h).2 with ⟨-, rfl⟩ | ⟨-, -, -, hr⟩ | ⟨-, -, -, -, hr⟩ | ⟨-, -, rfl⟩
  · exact countersInv_of_zero (hs.db_zero (by simp [hst])) rfl rfl
  · exact (hs.countHeld hst).repeated hr
  · exact (hs.countHeld hst).repeated hr
  · exact hs.countHeld hst

theorem CountersInv.tReleased (hs : CountersInv s) (hst : s.state = .buttonReleased) (h : exec .tReleased s = .next t) :
    CountersInv t := by
  obtain ⟨-, rfl⟩ := tReleased_next h
  obtain ⟨hd, hr⟩ := hs.hold_zero (by simp [hst])
  exact countersInv_of_zero (hs.db_zero (by simp [hst])) hd hr

/-- Every transition function keeps the invariants of the counters, run in its own state. -/
theorem CountersInv.tick (hs : CountersInv s) (h : exec s.state.op s = .next t) : CountersInv t := by
  cases hst : s.state with
  | idle => exact hs.tIdle hst (by rwa [hst] at h)
  | debouncing => exact hs.tDebounce hst (by rwa [hst] at h)
  | buttonPressed => exact hs.tPressed hst (by rwa [hst] at h)
  | buttonHeld => exact hs.tHeld hst (by rwa [hst] at h)
  | buttonReleased => exact hs.tReleased hst (by rwa [hst] at h)

end Sys2Proof.Safety
end

section
/-!
SUPPORT. Who writes the indicator (R22).
-/

namespace Sys2Proof.Machine

variable {i : Instr} {s t : State}

/-- The transition functions' part of R22. -/
theorem transition_indicator (hf : i.format = .S) (h : exec i s = .next t) :
    t.indicator = s.indicator ∨
    (i = .tDebounce ∧ t.indicator = true ∧ t.state = .buttonPressed) ∨
    (i = .tReleased ∧ t.indicator = false) ∨
    (i = .tPressed ∧ t.indicator = false ∧ t.button = .bToggleBoth ∧ t.power_on = false) := by
  cases i with
  | tIdle => rcases (tIdle_next h).2 with ⟨-, rfl⟩ | ⟨-, rfl⟩ <;> exact .inl rfl
  | tDebounce =>
    rcases (tDebounce_next h).2 with ⟨-, rfl⟩ | ⟨-, -, rfl⟩ | ⟨-, -, rfl⟩
    · exact .inl rfl
    · exact .inr (.inl ⟨rfl, rfl, rfl⟩)
    · exact .inl rfl
  | tPressed =>
    obtain ⟨_, _, _, ind, rfl, hkeep | ⟨hoff, hb, hp⟩⟩ := tPressed_shape h
    · exact .inl hkeep
    · exact .inr (.inr (.inr ⟨rfl, hoff, hb, hp⟩))
  | tHeld =>
    obtain ⟨_, _, _, _, _, _, _, _, rfl⟩ := tHeld_shape h
    exact .inl rfl
  | tReleased =>
    obtain ⟨-, rfl⟩ := tReleased_next h
    exact .inr (.inr (.inl ⟨rfl, rfl⟩))
  | _ => cases hf

/-- Outside formats S and E only the toggle-off case writes the indicator, and it clears it. -/
theorem suboperation_indicator (hS : i.format ≠ .S) (hE : i.format ≠ .E) (h : exec i s = .next t) :
    t.indicator = s.indicator ∨ i = .actToggleOff ∧ t.indicator = false := by
  cases hf : i.format with
  | E => exact absurd hf hE
  | S => exact absurd hf hS
  | P =>
    obtain ⟨_, _, _, _, rfl⟩ := exec_button_shape hf h
    exact .inl rfl
  | H =>
    obtain ⟨_, _, _, _, _, _, _, _, rfl⟩ := exec_held_shape hf h
    exact .inl rfl
  | A =>
    obtain ⟨_, _, _, _, rfl, hind⟩ := exec_request_shape (.inl hf) h
    exact hind
  | B =>
    obtain ⟨_, _, _, _, rfl, hind⟩ := exec_request_shape (.inr hf) h
    exact hind
  | U =>
    obtain ⟨_, _, _, _, rfl, -⟩ := exec_sequencer_shape hf h
    exact .inl rfl
  | V => rcases exec_overflow_shape hf h with rfl | ⟨-, rfl⟩ <;> exact .inl rfl

/-- RESET is the only row of format E. -/
theorem eq_reset_of_format (hf : i.format = .E) : i = .reset := by
  cases i with
  | reset => rfl
  | _ => cases hf

end Sys2Proof.Machine
end

section
/-!
PROOFS. The obligations about the state's registers: reset values, invariants, and which operation writes which register.
-/

namespace Sys2Proof.Proofs

open Sys2Proof.Machine Sys2Proof.Safety

/-- Settles O44: the rule for the Button State Machine's registers, with the ticks' case analysis. -/
theorem stepKeepsTheSettingsInvariant : Obligations.StepKeepsTheSettingsInvariant := by
  unfold Obligations.StepKeepsTheSettingsInvariant
  refine fun s t hs h => step_keeps_of_tick_keeps ?_ settingsInv_reset (fun _ _ => SettingsInv.tick) hs h
  exact fun u v heq hu => hu.of_settings_eq (congrArg Prod.fst heq)

/-- Settles O45: the same rule, each transition function being run in its own state. -/
theorem stepKeepsTheCounterInvariant : Obligations.StepKeepsTheCounterInvariant := by
  unfold Obligations.StepKeepsTheCounterInvariant
  refine fun s t hs h => step_keeps_of_tick_keeps ?_ countersInv_reset (fun _ _ => CountersInv.tick) hs h
  intro u v heq hu
  simp only [State.bsmRegisters, State.settings, Prod.mk.injEq, LampSettings.mk.injEq] at heq
  obtain ⟨⟨hst, -⟩, hdb, hd, hr⟩ := heq
  exact hu.of_eq hst hdb hd hr

/-- Settles O22: T_PRESSED's settings are those of the button scan, T_HELD's level is a repeat's, and no other transition function
touches the three. -/
theorem ticksChangeSettingsOnlyByTheirButtons : Obligations.TicksChangeSettingsOnlyByTheirButtons := by
  unfold Obligations.TicksChangeSettingsOnlyByTheirButtons
  intro s t q h
  rw [applyStimulus_tick] at h
  by_cases hp : s.state = .buttonPressed
  · rw [hp] at h
    obtain ⟨_, _, _, _, rfl, -⟩ := tPressed_shape h
    exact ⟨fun hne => ⟨hp, pressed_of_power_on_ne hne⟩, fun hne => ⟨hp, pressed_of_channel_ne hne⟩,
      fun hne => .inl ⟨hp, pressed_of_level_ne hne⟩⟩
  by_cases hh : s.state = .buttonHeld
  · rw [hh] at h
    have hlevel := tHeld_level h
    obtain ⟨_, _, _, _, _, _, _, _, rfl⟩ := tHeld_shape h
    exact ⟨fun hne => absurd rfl hne, fun hne => absurd rfl hne, fun hne => .inr ⟨hh, hlevel hne⟩⟩
  obtain ⟨-, hpw, hc, hl⟩ := transition_keeps_lamp (s := s.samplePort q) hp hh h
  exact ⟨fun hne => absurd hpw hne, fun hne => absurd hc hne, fun hne => absurd hl hne⟩

/-- Settles O34: by the formats' frames; a clock edge without tick and reset is an overflow's copy and a micro-operation. -/
theorem onlyTicksWriteTheSettings : Obligations.OnlyTicksWriteTheSettings := by
  unfold Obligations.OnlyTicksWriteTheSettings
  have hupd : ∀ {s t : State}, exec s.useq.op s = .next t → t.settings = s.settings := fun h =>
    exec_keeps_settings (.inr (.inr (.inl (useq_op_format _)))) h
  refine ⟨fun i s t hf h => exec_keeps_settings hf h, ?_⟩
  rintro x s t (rfl | rfl | ⟨v, rfl, hrst, htick⟩) h
  · simp only [applyStimulus, updAgent_eq] at h
    split at h
    · cases h
    · exact hupd h
  · rw [applyStimulus_ovf] at h
    cases h
    split_ifs <;> rfl
  · simp only [applyStimulus_edge, byteRst_eq, byteTick_eq, hrst, htick, Bool.false_eq_true, if_false] at h
    refine (hupd h).trans ?_
    split_ifs <;> rfl

/-- Settles O35: the transition functions, the toggle-off case and RESET are the formats that reach the indicator. -/
theorem indicatorHasItsThreeWriters : Obligations.IndicatorHasItsThreeWriters := by
  unfold Obligations.IndicatorHasItsThreeWriters
  refine ⟨fun i s t h hne => ?_, fun s t hst h hcommit => ?_, fun s t h => ?_, fun s t h => ?_⟩
  · by_cases hE : i.format = .E
    · exact .inr (.inr (.inr (.inr (eq_reset_of_format hE))))
    by_cases hS : i.format = .S
    · rcases transition_indicator hS h with hkeep | hdeb | hrel | hpress
      · exact absurd hkeep hne
      · exact .inl hdeb
      · exact .inr (.inl hrel)
      · exact .inr (.inr (.inr (.inl hpress)))
    · rcases suboperation_indicator hS hE h with hkeep | hoff
      · exact absurd hkeep hne
      · exact .inr (.inr (.inl hoff))
  · rcases (tDebounce_next h).2 with ⟨-, rfl⟩ | ⟨-, -, rfl⟩ | ⟨-, -, rfl⟩
    · simp at hcommit
    · rfl
    · simp [hst] at hcommit
  · obtain ⟨-, rfl⟩ := tReleased_next h
    rfl
  · obtain ⟨-, rfl⟩ := request_next_iff.1 h
    rfl

/-- Settles O36: formats U and V are the only ones that reach these registers, RESET apart. -/
theorem brightnessRegistersHaveTheirWriters : Obligations.BrightnessRegistersHaveTheirWriters := by
  unfold Obligations.BrightnessRegistersHaveTheirWriters
  intro i s t h hE
  by_cases hU : i.format = .U
  · obtain ⟨e, a, b, u, rfl, hen, ha, hb⟩ := exec_sequencer_shape hU h
    exact ⟨hen.resolve_left, ha.resolve_left, hb.resolve_left, fun hne => by simp at hne⟩
  by_cases hV : i.format = .V
  · rcases exec_overflow_shape hV h with rfl | ⟨rfl, rfl⟩
    · simp
    · simp [State.setLive]
  · obtain ⟨hen, ⟨ha, hb⟩, hla, hlb⟩ := pwmRegisters_eq_iff.1 (exec_keeps_pwmRegisters hU hV hE h)
    simp [hen, ha, hb, hla, hlb]

/-- Settles O7: the reset state is written out with R28's values. -/
theorem resetStateHoldsTheResetValues : Obligations.ResetStateHoldsTheResetValues := by
  unfold Obligations.ResetStateHoldsTheResetValues
  decide

/-- Settles O43: settings and counters by their values; the flag is down, the sequencer idle and the live pair 0. -/
theorem resetStateMeetsTheInvariants : Obligations.ResetStateMeetsTheInvariants := by
  unfold Obligations.ResetStateMeetsTheInvariants
  refine ⟨settingsInv_reset, countersInv_reset, ?flag, ?pairing⟩
  case flag => simp [FlagInv, State.reset]
  case pairing => constructor <;> simp [State.reset, History.fresh]

end Sys2Proof.Proofs
end

section
/-!
SUPPORT. Entries of the two lookup tables (R30 to R32): each is the running maximum of the raw contents, cut off at the table's top.
-/

namespace Sys2Proof.Machine

theorem shapeTable_toNat (raw : Nat → Target) (top : Target) (i : Nat) :
    (shapeTable raw top i).toNat = if 255 ≤ i then top.toNat else min top.toNat (runningMax raw i) := by
  have hfit : min top.toNat (runningMax raw i) < 2 ^ 16 := (min_le_left _ _).trans_lt top.isLt
  unfold shapeTable
  split
  · rfl
  · exact (BitVec.toNat_ofNat _ _).trans (Nat.mod_eq_of_lt hfit)

theorem shapeTable_le_top (raw : Nat → Target) (top : Target) (i : Nat) :
    (shapeTable raw top i).toNat ≤ top.toNat := by
  rw [shapeTable_toNat]
  split
  · exact le_rfl
  · exact min_le_left _ _

/-- R31 for a shaped table: past 254 every entry is the top, and before it the running maximum decides. -/
theorem shapeTable_mono (raw : Nat → Target) (top : Target) {i j : Nat} (hij : i ≤ j) :
    (shapeTable raw top i).toNat ≤ (shapeTable raw top j).toNat := by
  by_cases hj : 255 ≤ j
  · calc (shapeTable raw top i).toNat ≤ top.toNat := shapeTable_le_top raw top i
      _ = (shapeTable raw top j).toNat := by rw [shapeTable_toNat, if_pos hj]
  · have hi : ¬ 255 ≤ i := fun h => hj (h.trans hij)
    rw [shapeTable_toNat, shapeTable_toNat, if_neg hi, if_neg hj]
    exact min_le_min_left _ (runningMax_mono raw hij)

theorem memRead_mono (t : Rom) {i j : Level} (hij : i.toNat ≤ j.toNat) :
    (memRead t i).toNat ≤ (memRead t j).toNat := by
  unfold memRead
  exact shapeTable_mono _ _ hij

theorem memRead_le_topOf (t : Rom) (i : Level) : (memRead t i).toNat ≤ (topOf t).toNat := by
  unfold memRead
  exact shapeTable_le_top _ _ _

theorem memRead_last (t : Rom) : memRead t 255 = topOf t := by
  unfold memRead
  exact if_pos le_rfl

/-- R32: the two tables have the two tops, one each. -/
theorem topOf_cases : topOf .lutA = 4095 ∧ topOf .lutB = 2395 ∨ topOf .lutA = 2395 ∧ topOf .lutB = 4095 := by
  unfold topOf
  cases Config.topIsA
  · exact .inr ⟨rfl, rfl⟩
  · exact .inl ⟨rfl, rfl⟩

theorem topOf_le (t : Rom) : (topOf t).toNat ≤ 4095 := by
  rcases topOf_cases with ⟨hA, hB⟩ | ⟨hA, hB⟩ <;> cases t <;> simp [hA, hB]

end Sys2Proof.Machine
end

section
/-!
PROOFS. The obligation about the lookup tables.
-/

namespace Sys2Proof.Proofs

open Sys2Proof.Machine

/-- Settles O33: an index below 255 has a successor without wrap-around, and entry 255 of each table is its top. -/
theorem tablesMeetTheirConstraints : Obligations.TablesMeetTheirConstraints := by
  unfold Obligations.TablesMeetTheirConstraints
  refine ⟨fun i hi => ?step, fun i => ?bound, ?tops⟩
  case step =>
    have hnext : i.toNat ≤ (i + 1).toNat := by bv_omega
    exact ⟨memRead_mono .lutA hnext, memRead_mono .lutB hnext⟩
  case bound =>
    exact ⟨(memRead_le_topOf .lutA i).trans (topOf_le _), (memRead_le_topOf .lutB i).trans (topOf_le _)⟩
  case tops =>
    simpa only [LUT_A, LUT_B, memRead_last] using topOf_cases

end Sys2Proof.Proofs
end

section
/-!
SUPPORT. What each answer of the decoder means: a word too wide, a reserved code, or the rows that hold the word (R47, R50, R51).
-/

namespace Sys2Proof

variable {f : Format} {w : Nat} {i : Instr}

theorem fits_iff : f.fits w = true ↔ w < 2 ^ f.width := decide_eq_true_iff

theorem fits_eq_false_iff : f.fits w = false ↔ 2 ^ f.width ≤ w := by
  rw [← Bool.not_eq_true, fits_iff, not_lt]

/-- The reserved codes are 5, 6 and 7, and only formats S, U and A have an enumerated field (R50). -/
theorem codesLegal_eq_false_iff :
    f.codesLegal w = false ↔ (f = .S ∨ f = .U) ∧ 5 ≤ w ∨ f = .A ∧ 5 ≤ w % 8 := by
  cases f <;> simp [Format.codesLegal, codeLegal]

theorem decode_eq_tooWide_iff : decode f w = .error .tooWide ↔ f.fits w = false := by
  unfold decode
  split_ifs <;> simp_all

theorem decode_eq_reservedCode_iff :
    decode f w = .error .reservedCode ↔ f.fits w = true ∧ f.codesLegal w = false := by
  unfold decode
  split_ifs <;> simp_all

theorem decode_eq_ok_iff {is : List Instr} :
    decode f w = .ok is ↔ f.fits w = true ∧ f.codesLegal w = true ∧ selected f w = is := by
  unfold decode
  split_ifs <;> simp_all

/-- An operation is selected when it is a row and the word lies in that row (R47). -/
theorem mem_selected_iff : i ∈ selected f w ↔ i ∈ rowsOf f w ∧ w &&& i.mask = i.pattern := by
  simp [selected]

end Sys2Proof
end

section
/-!
SUPPORT. Rows exclude each other (R47): two rows whose masks share a bit on which they disagree hold no word in common.
-/

namespace Sys2Proof

variable {f : Format} {w : Nat} {i j : Instr}

/-- Two rows disagree on a bit that both of their masks test. -/
abbrev RowsConflict (i j : Instr) : Prop := i.pattern &&& j.mask ≠ j.pattern &&& i.mask

theorem RowsConflict.not_both (h : RowsConflict i j) (hi : w &&& i.mask = i.pattern) : w &&& j.mask ≠ j.pattern := by
  intro hj
  apply h
  rw [← hi, ← hj]
  exact Nat.and_right_comm w i.mask j.mask

/-- In every format but P any two rows conflict; format B has one row. -/
theorem rowsOf_pairwise_conflict (hf : f ≠ .P) (w : Nat) : (rowsOf f w).Pairwise RowsConflict := by
  cases f with
  | P => exact absurd rfl hf
  | B => exact List.pairwise_singleton _ _
  | E | S | H | A | U | V =>
    simp only [rowsOf]
    decide

theorem selected_length_le_one (hf : f ≠ .P) (w : Nat) : (selected f w).length ≤ 1 := by
  have hconf : (selected f w).Pairwise RowsConflict := (rowsOf_pairwise_conflict hf w).filter _
  have hrow : ∀ i ∈ selected f w, w &&& i.mask = i.pattern := fun i hi => (mem_selected_iff.1 hi).2
  match hsel : selected f w with
  | [] => simp
  | [_] => simp
  | i :: j :: is =>
    simp only [hsel, List.pairwise_cons, List.mem_cons, forall_eq_or_imp] at hconf hrow
    obtain ⟨⟨hij, -⟩, -⟩ := hconf
    obtain ⟨hi, hj, -⟩ := hrow
    exact absurd hj (hij.not_both hi)

/-- A row that holds the word is then the only one selected. -/
theorem selected_eq_singleton (hf : f ≠ .P) (hi : i ∈ selected f w) : selected f w = [i] := by
  obtain ⟨j, hj⟩ := List.length_eq_one_iff.1 ((selected_length_le_one hf w).antisymm (List.length_pos_of_mem hi))
  rw [hj, List.mem_singleton] at hi
  rw [hj, hi]

end Sys2Proof
end

section
/-!
SUPPORT. Every legal word of formats S, U, A and B is the word of register values or operands, so that it selects an operation (R42,
R43, R44, R46, R47).
-/

namespace Sys2Proof

variable {w : Nat}

theorem exists_state_of_code_lt (h : w < 5) : ∃ x : FsmState, x.code = w := by
  interval_cases w
  exacts [⟨.idle, rfl⟩, ⟨.debouncing, rfl⟩, ⟨.buttonPressed, rfl⟩, ⟨.buttonHeld, rfl⟩, ⟨.buttonReleased, rfl⟩]

theorem exists_button_of_code_lt (h : w < 5) : ∃ b : ButtonAction, b.code = w := by
  interval_cases w
  exacts [⟨.bNone, rfl⟩, ⟨.bWarmOnly, rfl⟩, ⟨.bCoolOnly, rfl⟩, ⟨.bToggleBoth, rfl⟩, ⟨.bAdjust, rfl⟩]

theorem exists_channel_of_code_lt (h : w < 4) : ∃ c : Channel, c.code = w := by
  interval_cases w
  exacts [⟨.chNone, rfl⟩, ⟨.chWarm, rfl⟩, ⟨.chCool, rfl⟩, ⟨.chBoth, rfl⟩]

theorem exists_useq_of_code_lt (h : w < 5) : ∃ u : Useq, u.code = w := by
  interval_cases w
  exacts [⟨.uIdle, rfl⟩, ⟨.uClr, rfl⟩, ⟨.uWra, rfl⟩, ⟨.uWrb, rfl⟩, ⟨.uSet, rfl⟩]

/-- Format A's word is taken apart into its three fields. -/
theorem exists_settings_of_wordA (hw : w < 64) (hb : w % 8 < 5) : ∃ pw c b, wordA pw c b = w := by
  obtain ⟨b, hb⟩ := exists_button_of_code_lt hb
  obtain ⟨c, hc⟩ := exists_channel_of_code_lt (w := w / 8 % 4) (by omega)
  refine ⟨decide (32 ≤ w), c, b, ?_⟩
  unfold wordA
  by_cases hpw : 32 ≤ w <;> simp only [hpw, decide_true, decide_false, Bool.toNat_true, Bool.toNat_false] <;> omega

/-- Every 16-bit word is the word of one BSET (R50). -/
theorem decode_request (hw : w < 2 ^ 16) :
    decode .B w = .ok [.bset (BitVec.ofNat 8 w) (BitVec.ofNat 8 (w / 256))] := by
  have hmask : w &&& 0xFFFF = w := (Nat.and_two_pow_sub_one_eq_mod w 16).trans (Nat.mod_eq_of_lt hw)
  have hpat : w / 256 % 256 * 256 + w % 256 = w := by omega
  refine decode_eq_ok_iff.2 ⟨fits_iff.2 hw, rfl, ?_⟩
  simp [selected, rowsOf, Instr.mask, Instr.pattern, hmask, hpat]

end Sys2Proof
end

section
/-!
SUPPORT. The word an operation encodes to, whatever its open bits hold: it fits its format, holds no reserved code and lies in the
operation's row (R47, R49).
-/

namespace Sys2Proof

variable {i : Instr}

open Laws.WordInRow in
/-- With the open bits 0 every operation's word is well placed. -/
theorem wordInRow (i : Instr) : Statement i := by
  cases i
  exacts [reset, tIdle, tDebounce, tPressed, tHeld, tReleased, btn0, btn1, btn2, btn3, btn4, heldRelease, repInc, repDec,
    actToggleOn, actToggleOff, actCool, actWarm, actAdjBoth, actAdjCool, actAdjWarm, actAdjNone, actNone, bset _ _,
    uIdle, uClr, uWra, uWrb, uSet, commit, commitNop]

theorem encode_eq_pattern (i : Instr) : encode i = i.pattern := by simp [encode, encodeWith]

theorem pattern_lt (i : Instr) : i.pattern < 2 ^ i.format.width := by
  simpa only [encode_eq_pattern] using (wordInRow i).1

theorem pattern_and_mask (i : Instr) : i.pattern &&& i.mask = i.pattern := by
  simpa only [encode_eq_pattern] using (wordInRow i).2

/-- The bits a row leaves open are not bits its mask tests. -/
theorem openBits_and_mask (i : Instr) : (2 ^ i.format.width - 1 - i.mask) &&& i.mask = 0 := by
  cases i <;> simp [Instr.format, Format.width, Instr.mask]

theorem encodeWith_lt (spare : Nat) (i : Instr) : encodeWith spare i < 2 ^ i.format.width := by
  have hopen : spare &&& (2 ^ i.format.width - 1 - i.mask) ≤ 2 ^ i.format.width - 1 - i.mask := Nat.and_le_right
  have hpos : 0 < 2 ^ i.format.width := Nat.two_pow_pos _
  exact Nat.or_lt_two_pow (pattern_lt i) (by omega)

theorem encodeWith_and_mask (spare : Nat) (i : Instr) : encodeWith spare i &&& i.mask = i.pattern := by
  rw [encodeWith, Nat.and_or_distrib_right, pattern_and_mask, Nat.and_assoc, openBits_and_mask, Nat.and_zero, Nat.or_zero]

/-- In the formats with an enumerated field a row tests all three bits of it, for a code that is not reserved. -/
theorem enumerated_field (hf : (i.format = .S ∨ i.format = .U) ∨ i.format = .A) : i.mask % 8 = 7 ∧ i.pattern % 8 < 5 := by
  revert hf
  cases i <;> simp [Instr.format, Instr.mask, Instr.pattern]

theorem encodeWith_mod_eight (spare : Nat) (hm : i.mask % 8 = 7) : encodeWith spare i % 8 = i.pattern % 8 := by
  calc encodeWith spare i % 8
      _ = encodeWith spare i % 8 &&& 7 := by rw [Nat.and_two_pow_sub_one_eq_mod _ 3, Nat.mod_mod]
      _ = (encodeWith spare i &&& i.mask) % 8 := by rw [← hm]; exact (Nat.and_mod_two_pow (n := 3)).symm
      _ = i.pattern % 8 := by rw [encodeWith_and_mask]

theorem encodeWith_codesLegal (spare : Nat) (i : Instr) : i.format.codesLegal (encodeWith spare i) = true := by
  have hlt := encodeWith_lt spare i
  have hlow (hf : (i.format = .S ∨ i.format = .U) ∨ i.format = .A) : encodeWith spare i % 8 < 5 :=
    (encodeWith_mod_eight spare (enumerated_field hf).1).trans_lt (enumerated_field hf).2
  rw [← Bool.not_eq_false, codesLegal_eq_false_iff]
  rintro (⟨hf, h5⟩ | ⟨hf, h5⟩)
  · have hmod := hlow (.inl hf)
    have hwidth : i.format.width = 3 := by rcases hf with hf | hf <;> rw [hf] <;> rfl
    rw [hwidth] at hlt
    omega
  · exact absurd (hlow (.inr hf)) (not_lt.2 h5)

/-- BSET has no open bits: its word is `{lb, la}` (R47). -/
theorem encodeWith_bset (spare : Nat) (la lb : Level) : encodeWith spare (.bset la lb) = lb.toNat * 256 + la.toNat := by
  simp [encodeWith, Instr.pattern, Instr.format, Format.width, Instr.mask]

theorem mem_rowsOf_encodeWith (spare : Nat) (i : Instr) : i ∈ rowsOf i.format (encodeWith spare i) := by
  cases i with
  | bset la lb =>
    have hla : BitVec.ofNat 8 (lb.toNat * 256 + la.toNat) = la := by bv_omega
    have hlb : BitVec.ofNat 8 ((lb.toNat * 256 + la.toNat) / 256) = lb := by bv_omega
    simp [encodeWith_bset, rowsOf, Instr.format, hla, hlb]
  | _ => simp [rowsOf, Instr.format]

theorem mem_selected_encodeWith (spare : Nat) (i : Instr) : i ∈ selected i.format (encodeWith spare i) :=
  mem_selected_iff.2 ⟨mem_rowsOf_encodeWith spare i, encodeWith_and_mask spare i⟩

/-- Encoded words are well formed, so the decoder answers what they select. -/
theorem decode_encodeWith (spare : Nat) (i : Instr) :
    decode i.format (encodeWith spare i) = .ok (selected i.format (encodeWith spare i)) :=
  decode_eq_ok_iff.2 ⟨fits_iff.2 (encodeWith_lt spare i), encodeWith_codesLegal spare i, rfl⟩

end Sys2Proof
end

section
/-!
PROOFS. The obligations about the encoding: the decoder against the encoder, exclusive rows, refusals, words and codes of the spec.
-/

namespace Sys2Proof.Proofs

/-- Settles O3: an encoded word lies in its operation's row, and outside format P no other row holds it. -/
theorem decodeOfEncodeIsTheOperation : Obligations.DecodeOfEncodeIsTheOperation := by
  unfold Obligations.DecodeOfEncodeIsTheOperation
  intro i _ spare
  have hmem := mem_selected_encodeWith spare i
  refine ⟨fun hf => ?_, fun _ => ⟨_, decode_encodeWith spare i, hmem⟩⟩
  rw [decode_encodeWith, selected_eq_singleton hf hmem]

/-- Settles O4: at most one row as rows conflict; exactly one as every legal word is the word of some register values or operands. -/
theorem rowsAreExclusiveAndExhaustive : Obligations.RowsAreExclusiveAndExhaustive := by
  unfold Obligations.RowsAreExclusiveAndExhaustive
  refine fun f w hf => ⟨fun is h => ?_, fun hfmt is h => ?_⟩
  · obtain ⟨-, -, rfl⟩ := decode_eq_ok_iff.1 h
    exact selected_length_le_one hf w
  obtain ⟨hfits, hcodes, -⟩ := decode_eq_ok_iff.1 h
  have hw := fits_iff.1 hfits
  suffices hone : ∃ i, decode f w = .ok [i] by
    obtain ⟨i, hi⟩ := hone
    cases hi.symm.trans h
    rfl
  rcases hfmt with rfl | rfl | rfl | rfl
  · obtain ⟨x, rfl⟩ := exists_state_of_code_lt (of_decide_eq_true hcodes)
    exact ⟨_, decode_state x⟩
  · obtain ⟨u, rfl⟩ := exists_useq_of_code_lt (of_decide_eq_true hcodes)
    exact ⟨_, decode_useq u⟩
  · obtain ⟨pw, c, b, rfl⟩ := exists_settings_of_wordA hw (of_decide_eq_true hcodes)
    exact ⟨_, decode_action pw c b⟩
  · exact ⟨_, decode_request hw⟩

/-- Settles O5: the decoder's two tests, in numbers. -/
theorem reservedCodesAreRefused : Obligations.ReservedCodesAreRefused := by
  unfold Obligations.ReservedCodesAreRefused
  intro f w
  rw [decode_eq_tooWide_iff, decode_eq_reservedCode_iff, fits_eq_false_iff, fits_iff, codesLegal_eq_false_iff]
  exact ⟨Iff.rfl, Iff.rfl⟩

/-- Settles O6: each word is run through the decoder. -/
theorem wordsOfTheSpecDecode : Obligations.WordsOfTheSpecDecode := by
  unfold Obligations.WordsOfTheSpecDecode
  refine ⟨?E, ?S, ?P, ?H, ?A, ?B, ?U, ?V⟩ <;> decide

/-- Settles O50: the codes are tables; each word is the sum of its fields' weights. -/
theorem codesAndDispatchWordsOfTheSpec : Obligations.CodesAndDispatchWordsOfTheSpec := by
  unfold Obligations.CodesAndDispatchWordsOfTheSpec
  refine ⟨by decide, by decide, by decide, by decide, fun pw c b => ?wordA, fun ovf en => ?wordV, fun rst tick ovf => ?wordE⟩
  case wordA => cases pw <;> simp [wordA, Nat.mul_comm]
  case wordV => cases ovf <;> cases en <;> rfl
  case wordE => cases rst <;> cases tick <;> cases ovf <;> rfl

end Sys2Proof.Proofs
end

section
/-!
SUPPORT. Steps and clock edges by the agent that runs: what taking a stimulus leaves alone, and an edge as the abstract stimuli it is
made of (R52, R92).
-/

namespace Sys2Proof.Machine

variable {s : State} {v : BitVec 8}

theorem step_eq_applyStimulus {x : Stimulus} (h : s.nextStimulus = x) : step s = applyStimulus x s.takeStimulus := by
  rw [step, h]

@[simp] theorem takeStimulus_state (s : State) : s.takeStimulus.state = s.state := by
  unfold State.takeStimulus
  split <;> rfl

@[simp] theorem takeStimulus_useq (s : State) : s.takeStimulus.useq = s.useq := by
  unfold State.takeStimulus
  split <;> rfl

@[simp] theorem takeStimulus_sync_en (s : State) : s.takeStimulus.sync_en = s.sync_en := by
  unfold State.takeStimulus
  split <;> rfl

/-- A dispatch word that decodes to one operation runs that operation. -/
theorem runWord_eq_exec {f : Format} {w : Nat} {i : Instr} (h : decode f w = .ok [i]) (s : State) : runWord f w s = exec i s := by
  simp [runWord, h]

theorem applyStimulus_uop_busy (h : s.useq ≠ .uIdle) : applyStimulus .uop s = updAgent s := if_neg h

theorem updAgent_idle (h : s.useq = .uIdle) : updAgent s = .next s := by
  rw [updAgent_eq, h]
  rfl

theorem edge_rst (hr : byteRst v = true) : applyStimulus (.edge v) s = applyStimulus .reset s := if_pos hr

theorem edge_tick_only (hr : byteRst v = false) (ht : byteTick v = true) (ho : byteOvf v = false) :
    applyStimulus (.edge v) s = applyStimulus (.tick (bytePressed v)) s := by
  simp [applyStimulus, edgeAgents, hr, ht, ho]

theorem edge_ovf_only (hr : byteRst v = false) (ht : byteTick v = false) (ho : byteOvf v = true) :
    applyStimulus (.edge v) s = andThen (applyStimulus .ovf s) updAgent := by
  simp only [applyStimulus, edgeAgents, hr, ht, ho, Bool.false_eq_true, if_false, if_true]

theorem edge_quiet (hr : byteRst v = false) (ht : byteTick v = false) (ho : byteOvf v = false) :
    applyStimulus (.edge v) s = updAgent s := by
  simp [applyStimulus, edgeAgents, hr, ht, ho]

/-- An overflow leaves the sequencer's step alone (R85). -/
theorem ovf_next_useq {t : State} (h : applyStimulus .ovf s = .next t) : t.useq = s.useq := by
  rw [applyStimulus_ovf] at h
  cases h
  split <;> rfl

/-- An overflow followed by the sequencer's step: the overflow alone while the sequencer is idle, else overflow and UOP. -/
theorem andThen_ovf_updAgent (s : State) :
    andThen (applyStimulus .ovf s) updAgent = if s.useq = .uIdle then applyStimulus .ovf s else applyAll [.ovf, .uop] s := by
  obtain ⟨t, ht⟩ : ∃ t, applyStimulus .ovf s = .next t := ⟨_, applyStimulus_ovf s⟩
  rw [applyAll, ht, andThen_next, andThen_next, applyAll_one]
  split
  · next hu => exact updAgent_idle ((ovf_next_useq ht).trans hu)
  · next hu => exact (applyStimulus_uop_busy (by rwa [ovf_next_useq ht])).symm

end Sys2Proof.Machine
end

section
/-!
PROOFS. The obligations about dispatch: a step runs the decoded operation, and a stimulus byte does what it stands for.
-/

namespace Sys2Proof.Proofs

open Sys2Proof.Machine

/-- Settles O1: each agent runs its dispatch word, and taking a stimulus does not change the registers the word is made of. -/
theorem stepRunsTheDecodedOperation : Obligations.StepRunsTheDecodedOperation := by
  unfold Obligations.StepRunsTheDecodedOperation
  refine fun s i => ⟨fun q hx hi => ?tick, fun hx hu hi => ?uop, fun hx hi => ?ovf, fun hx hi => ?reset,
    fun v hx => step_eq_applyStimulus hx, fun x xs hx => ?taken⟩
  case tick => exact (step_eq_applyStimulus hx).trans (runWord_eq_exec (by simpa [State.dispatchS] using hi) _)
  case uop =>
    have hbusy : s.takeStimulus.useq ≠ .uIdle := by rwa [takeStimulus_useq]
    rw [step_eq_applyStimulus hx, applyStimulus_uop_busy hbusy]
    exact runWord_eq_exec (by rwa [State.dispatchU, takeStimulus_useq]) _
  case ovf => exact (step_eq_applyStimulus hx).trans (runWord_eq_exec (by rwa [State.dispatchV, takeStimulus_sync_en]) _)
  case reset => exact (step_eq_applyStimulus hx).trans (runWord_eq_exec hi _)
  case taken => simp only [State.nextStimulus, State.takeStimulus, hx, and_self]

/-- Settles O49: the fields of each byte say which agents its edge runs. -/
theorem stimulusBytesOfTheSpec : Obligations.StimulusBytesOfTheSpec := by
  unfold Obligations.StimulusBytesOfTheSpec
  refine ⟨fun p s => ?tick, ?bits, fun s => ⟨edge_rst rfl, fun hu => ?ovfIdle, fun hu => ?ovfBusy, fun hu => ?quietIdle,
    fun hu => ?quietBusy⟩, fun p => rfl, rfl, rfl, rfl⟩
  case tick =>
    obtain ⟨hr, ht, ho, hp⟩ := tickByte_fields p
    rw [edge_tick_only hr ht ho, hp]
  case bits => decide
  case ovfIdle => rw [edge_ovf_only rfl rfl rfl, andThen_ovf_updAgent, if_pos hu]
  case ovfBusy => rw [edge_ovf_only rfl rfl rfl, andThen_ovf_updAgent, if_neg hu]
  case quietIdle => exact ⟨(edge_quiet rfl rfl rfl).trans (updAgent_idle hu), (edge_quiet rfl rfl rfl).trans (updAgent_idle hu)⟩
  case quietBusy => rw [edge_quiet rfl rfl rfl, applyStimulus_uop_busy hu]

end Sys2Proof.Proofs
end

section
/-!
SUPPORT. What the transition functions and the repeats answer with the sequencer idle: the equations that go with the inversion
lemmas, and that every tick then completes (R104).
-/

namespace Sys2Proof.Machine

variable {s t : State}

theorem tIdle_eq (hu : s.useq = .uIdle) :
    exec .tIdle s = if s.noneDown then .next s else .next ((s.goto .debouncing).setDbCnt 0) := atTick_idle hu _

theorem tDebounce_eq (hu : s.useq = .uIdle) :
    exec .tDebounce s =
      if s.noneDown then .next ((s.goto .idle).setDbCnt 0)
      else if s.debounceDone then .next (((s.goto .buttonPressed).setIndicator true).setDbCnt 0)
      else .next (s.setDbCnt (s.db_cnt.toNat + 1)) := atTick_idle hu _

theorem tPressed_eq (hu : s.useq = .uIdle) :
    exec .tPressed s = andThen (action (pressedButtons s)) fun m => .next (enterHeld m) := atTick_idle hu _

theorem tHeld_eq (hu : s.useq = .uIdle) :
    exec .tHeld s =
      if s.noneDown then exec .heldRelease s
      else if s.pressed 3 && s.repeatDue then exec .repInc (countHeld s)
      else if s.pressed 4 && s.repeatDue then exec .repDec (countHeld s)
      else .next (countHeld s) := atTick_idle hu _

theorem tHeld_release (hu : s.useq = .uIdle) (hnone : s.noneDown = true) : exec .tHeld s = exec .heldRelease s := by
  rw [tHeld_eq hu, if_pos hnone]

theorem tHeld_inc (hu : s.useq = .uIdle) (h3 : s.pressed 3 = true) (hdue : s.repeatDue = true) :
    exec .tHeld s = exec .repInc (countHeld s) := by
  rw [tHeld_eq hu, if_neg (by simp [noneDown_of_pressed h3]), if_pos (by simp [h3, hdue])]

theorem tHeld_dec (hu : s.useq = .uIdle) (h3 : s.pressed 3 = false) (h4 : s.pressed 4 = true) (hdue : s.repeatDue = true) :
    exec .tHeld s = exec .repDec (countHeld s) := by
  rw [tHeld_eq hu, if_neg (by simp [noneDown_of_pressed h4]), if_neg (by simp [h3]), if_pos (by simp [h4, hdue])]

theorem tHeld_count (hu : s.useq = .uIdle) (hdown : s.noneDown = false)
    (hno : s.repeatDue = false ∨ s.pressed 3 = false ∧ s.pressed 4 = false) : exec .tHeld s = .next (countHeld s) := by
  have h3 : ¬ (s.pressed 3 && s.repeatDue) = true := by rcases hno with hdue | ⟨h3, -⟩ <;> simp [*]
  have h4 : ¬ (s.pressed 4 && s.repeatDue) = true := by rcases hno with hdue | ⟨-, h4⟩ <;> simp [*]
  rw [tHeld_eq hu, if_neg (by simp [hdown]), if_neg h3, if_neg h4]

theorem tReleased_eq (hu : s.useq = .uIdle) : exec .tReleased s = .next ((s.goto .idle).setIndicator false) :=
  atTick_idle hu _

/-- A repeat is one action case on the adjusted settings, and it completes (R64, R65). -/
theorem repeatAdjust_completes (hu : s.useq = .uIdle) (l : Level) :
    ∃ t, exec (actionOp s.power_on s.channel .bAdjust) ((s.setLevel l).setButton .bAdjust) = .next t ∧
      repeatAdjust l s = .next (t.setHoldRate 0) := by
  obtain ⟨t, ht⟩ : ∃ t, action ((s.setLevel l).setButton .bAdjust) = .next t := action_completes hu
  exact ⟨t, (action_eq_exec _).symm.trans ht, by rw [repeatAdjust, ht, andThen_next]⟩

theorem repInc_completes (hu : s.useq = .uIdle) : ∃ t, exec .repInc s = .next t := by
  obtain ⟨t, -, ht⟩ := repeatAdjust_completes hu (satInc s.level)
  exact ⟨_, ht⟩

theorem repDec_completes (hu : s.useq = .uIdle) : ∃ t, exec .repDec s = .next t := by
  obtain ⟨t, -, ht⟩ := repeatAdjust_completes hu (floorDec s.level)
  exact ⟨_, ht⟩

@[simp] theorem pressedButtons_useq (s : State) : (pressedButtons s).useq = s.useq := by
  obtain ⟨_, _, _, _, e⟩ := pressedButtons_frame s
  rw [e]

/-- With the sequencer idle every transition function answers a next state. -/
theorem transition_completes (hu : s.useq = .uIdle) : ∃ t, exec s.state.op s = .next t := by
  cases s.state with
  | idle =>
    rw [FsmState.op, tIdle_eq hu]
    split_ifs <;> exact ⟨_, rfl⟩
  | debouncing =>
    rw [FsmState.op, tDebounce_eq hu]
    split_ifs <;> exact ⟨_, rfl⟩
  | buttonPressed =>
    obtain ⟨m, hm⟩ := action_completes (s := pressedButtons s) (by simpa using hu)
    rw [FsmState.op, tPressed_eq hu, hm]
    exact ⟨_, rfl⟩
  | buttonHeld =>
    rw [FsmState.op, tHeld_eq hu]
    split_ifs
    · exact ⟨_, rfl⟩
    · exact repInc_completes hu
    · exact repDec_completes hu
    · exact ⟨_, rfl⟩
  | buttonReleased => exact ⟨_, tReleased_eq hu⟩

end Sys2Proof.Machine
end

section
/-!
SUPPORT. The scan of T_PRESSED as the list of operations that format P selects (R47, R57).
-/

namespace Sys2Proof.Machine

variable {f : State → State} {i : Instr} {n : Nat}

/-- The rows of format P whose buttons a mask shows pressed, in table order. -/
def pressedOps (p : Pressed) : List Instr :=
  (if p.getLsbD 0 then [Instr.btn0] else []) ++ (if p.getLsbD 1 then [Instr.btn1] else []) ++
    (if p.getLsbD 2 then [Instr.btn2] else []) ++ (if p.getLsbD 3 then [Instr.btn3] else []) ++
    (if p.getLsbD 4 then [Instr.btn4] else [])

theorem decode_pressed (p : Pressed) : decode .P p.toNat = .ok (pressedOps p) := by
  revert p; decide

/-- A format P operation leaves the sampled mask alone, so the later buttons are scanned on the same mask (R10). -/
theorem button_keeps_p (hf : i.format = .P) (hi : ∀ u, exec i u = .next (f u)) (u : State) : (f u).p = u.p := by
  obtain ⟨_, _, _, _, e⟩ := exec_button_shape hf (hi u)
  rw [e]

theorem ifPressed_p (hf : i.format = .P) (hi : ∀ u, exec i u = .next (f u)) (u : State) : (ifPressed n f u).p = u.p := by
  unfold ifPressed
  split_ifs
  · exact button_keeps_p hf hi u
  · rfl

/-- One more button of the scan: its operation runs, if its bit is set in the mask the state holds. -/
theorem execAll_button {is : List Instr} {p : Pressed} {s u : State} (hi : ∀ u, exec i u = .next (f u)) (hp : u.p = p)
    (h : execAll is s = .next u) : execAll (is ++ if p.getLsbD n then [i] else []) s = .next (ifPressed n f u) := by
  subst hp
  rw [execAll_append, h, andThen_next, ifPressed, State.pressed]
  split_ifs
  · rw [execAll_one, hi]
  · rfl

/-- The scan of T_PRESSED runs the operations of the pressed buttons. -/
theorem execAll_pressedOps (s : State) : execAll (pressedOps s.p) s = .next (pressedButtons s) := by
  have i0 : ∀ u, exec .btn0 u = .next (btn0 u) := fun _ => rfl
  have i1 : ∀ u, exec .btn1 u = .next (btn1 u) := fun _ => rfl
  have i2 : ∀ u, exec .btn2 u = .next (btn2 u) := fun _ => rfl
  have i3 : ∀ u, exec .btn3 u = .next (btn3 u) := fun _ => rfl
  have i4 : ∀ u, exec .btn4 u = .next (btn4 u) := fun _ => rfl
  have p1 := ifPressed_p (n := 0) rfl i0 s
  have p2 := (ifPressed_p (n := 1) rfl i1 _).trans p1
  have p3 := (ifPressed_p (n := 2) rfl i2 _).trans p2
  have p4 := (ifPressed_p (n := 3) rfl i3 _).trans p3
  exact execAll_button i4 p4 <| execAll_button i3 p3 <| execAll_button i2 p2 <| execAll_button i1 p1 <|
    execAll_button (is := []) i0 rfl rfl

end Sys2Proof.Machine
end

section
/-!
SUPPORT. The mask is read by the transition functions alone: `action()` and the repeats do the same whatever it is (R63, R67, R69).
-/

namespace Sys2Proof.Machine

variable {i : Instr} {s t : State}

theorem actionOp_format (pw : Bool) (c : Channel) (b : ButtonAction) : (actionOp pw c b).format = .A := by
  cases b with
  | bNone | bWarmOnly | bCoolOnly => rfl
  | bToggleBoth => cases pw <;> rfl
  | bAdjust => cases c <;> rfl

theorem exec_action_samplePort (hf : i.format = .A) (q : Pressed) (h : exec i s = .next t) :
    exec i (s.samplePort q) = .next (t.samplePort q) := by
  cases i with
  | actAdjNone | actNone =>
    cases h
    rfl
  | actToggleOn | actToggleOff | actCool | actWarm | actAdjBoth | actAdjCool | actAdjWarm =>
    obtain ⟨hu, rfl⟩ := request_next_iff.1 h
    exact request_next_iff.2 ⟨hu, rfl⟩
  | _ => cases hf

theorem repeatAdjust_samplePort {l : Level} (q : Pressed) (h : repeatAdjust l s = .next t) :
    repeatAdjust l (s.samplePort q) = .next (t.samplePort q) := by
  obtain ⟨m, hm, rfl⟩ := repeatAdjust_next h
  rw [action_eq_exec] at hm
  have hq := exec_action_samplePort (actionOp_format _ _ _) q hm
  refine andThen_next_iff.2 ⟨m.samplePort q, ?_, rfl⟩
  rw [action_eq_exec]
  exact hq

end Sys2Proof.Machine
end

section
/-!
SUPPORT. What a tick does to `state` (R68) and when it makes the sequencer busy (R102).
-/

namespace Sys2Proof.Machine

open Sys2Proof.Safety

variable {s t : State}

/-- A transition function, run in its own state, leads to a listed successor. -/
theorem transition_state_mem_successors (h : exec s.state.op s = .next t) : t.state ∈ successors s.state := by
  cases hst : s.state with
  | idle =>
    rw [hst] at h
    rcases (tIdle_next h).2 with ⟨-, rfl⟩ | ⟨-, rfl⟩ <;> simp [successors, hst]
  | debouncing =>
    rw [hst] at h
    rcases (tDebounce_next h).2 with ⟨-, rfl⟩ | ⟨-, -, rfl⟩ | ⟨-, -, rfl⟩ <;> simp [successors, hst]
  | buttonPressed =>
    rw [hst] at h
    obtain ⟨_, _, _, _, rfl, -⟩ := tPressed_shape h
    simp [successors]
  | buttonHeld =>
    rw [hst] at h
    rcases (tHeld_next h).2 with ⟨-, rfl⟩ | ⟨-, -, -, hr⟩ | ⟨-, -, -, -, hr⟩ | ⟨-, -, rfl⟩
    · simp [successors]
    · obtain ⟨_, _, _, rfl, -⟩ := repeatAdjust_frame hr
      simp [successors, countHeld, hst]
    · obtain ⟨_, _, _, rfl, -⟩ := repeatAdjust_frame hr
      simp [successors, countHeld, hst]
    · simp [successors, countHeld, hst]
  | buttonReleased =>
    rw [hst] at h
    obtain ⟨-, rfl⟩ := tReleased_next h
    simp [successors]

/-- Each listed successor is reached: by a tick on the reset registers, with the count of the eleventh tick where a press commits. -/
theorem exists_tick_of_mem_successors {a b : FsmState} (h : b ∈ successors a) :
    ∃ (s t : State) (q : Pressed), s.state = a ∧ applyStimulus (.tick q) s = .next t ∧ t.state = b := by
  cases a with
  | idle =>
    obtain rfl | rfl : b = .idle ∨ b = .debouncing := by simpa [successors] using h
    · exact ⟨{ State.reset with state := .idle }, _, 0, rfl, rfl, rfl⟩
    · exact ⟨{ State.reset with state := .idle }, _, 1, rfl, rfl, rfl⟩
  | debouncing =>
    obtain rfl | rfl | rfl : b = .debouncing ∨ b = .idle ∨ b = .buttonPressed := by simpa [successors] using h
    · exact ⟨{ State.reset with state := .debouncing }, _, 1, rfl, rfl, rfl⟩
    · exact ⟨{ State.reset with state := .debouncing }, _, 0, rfl, rfl, rfl⟩
    · exact ⟨{ State.reset with state := .debouncing, db_cnt := 10 }, _, 1, rfl, rfl, rfl⟩
  | buttonPressed =>
    obtain rfl : b = .buttonHeld := by simpa [successors] using h
    exact ⟨{ State.reset with state := .buttonPressed }, _, 0, rfl, rfl, rfl⟩
  | buttonHeld =>
    obtain rfl | rfl : b = .buttonHeld ∨ b = .buttonReleased := by simpa [successors] using h
    · exact ⟨{ State.reset with state := .buttonHeld }, _, 1, rfl, rfl, rfl⟩
    · exact ⟨{ State.reset with state := .buttonHeld }, _, 0, rfl, rfl, rfl⟩
  | buttonReleased =>
    obtain rfl : b = .idle := by simpa [successors] using h
    exact ⟨{ State.reset with state := .buttonReleased }, _, 0, rfl, rfl, rfl⟩

/-- With `B_None` the action case is ACT_NONE (R78). -/
theorem action_of_bNone (hb : s.button = .bNone) : action s = .next s := by
  rw [action_eq_exec, hb]
  rfl

/-- T_PRESSED requests only a recognised action. -/
theorem tPressed_busy (h : exec .tPressed s = .next t) (hbusy : t.useq ≠ .uIdle) : t.useq = .uClr ∧ t.button ≠ .bNone := by
  obtain ⟨hu, m, hm, rfl⟩ := tPressed_next h
  have hidle : (pressedButtons s).useq = .uIdle := by simpa using hu
  have hbutton : (pressedButtons s).button ≠ .bNone := by
    intro hb
    obtain rfl : pressedButtons s = m := by simpa using (action_of_bNone hb).symm.trans hm
    exact hbusy hidle
  obtain ⟨_, _, u, _, rfl, -, ⟨hsame, -⟩ | ⟨-, hclr⟩⟩ := action_shape hm
  · exact absurd ((congrArg State.useq hsame).trans hidle) hbusy
  · exact ⟨hclr, hbutton⟩

/-- T_HELD requests only at a due repeat of button 3 or 4 (R63). -/
theorem tHeld_busy (h : exec .tHeld s = .next t) (hbusy : t.useq ≠ .uIdle) :
    t.useq = .uClr ∧ s.repeatDue = true ∧ (s.pressed 3 = true ∨ s.pressed 4 = true) := by
  obtain ⟨hu, hcase⟩ := tHeld_next h
  have hclr : ∀ {l : Level}, repeatAdjust l (countHeld s) = .next t → t.useq = .uClr := by
    intro l hr
    obtain ⟨_, _, u, rfl, rfl | rfl⟩ := repeatAdjust_frame hr
    · exact absurd hu hbusy
    · rfl
  rcases hcase with ⟨-, rfl⟩ | ⟨-, h3, hdue, hr⟩ | ⟨-, -, h4, hdue, hr⟩ | ⟨-, -, rfl⟩
  · exact absurd hu hbusy
  · exact ⟨hclr hr, hdue, .inl h3⟩
  · exact ⟨hclr hr, hdue, .inr h4⟩
  · exact absurd hu hbusy

/-- The other transition functions leave the sequencer idle, as they find it. -/
theorem transition_leaves_idle (hp : s.state ≠ .buttonPressed) (hh : s.state ≠ .buttonHeld) (h : exec s.state.op s = .next t) :
    t.useq = .uIdle := by
  cases hst : s.state with
  | idle =>
    rw [hst] at h
    obtain ⟨hu, ⟨-, rfl⟩ | ⟨-, rfl⟩⟩ := tIdle_next h <;> exact hu
  | debouncing =>
    rw [hst] at h
    obtain ⟨hu, ⟨-, rfl⟩ | ⟨-, -, rfl⟩ | ⟨-, -, rfl⟩⟩ := tDebounce_next h <;> exact hu
  | buttonPressed => exact absurd hst hp
  | buttonHeld => exact absurd hst hh
  | buttonReleased =>
    rw [hst] at h
    obtain ⟨hu, rfl⟩ := tReleased_next h
    exact hu

end Sys2Proof.Machine
end

section
/-!
PROOFS. The obligations about the Button State Machine.
-/

namespace Sys2Proof.Proofs

open Sys2Proof.Machine Sys2Proof.Safety

/-- Settles O12: the scan's operations are the rows of format P, and the case run on the scan's settings is format A's. -/
theorem pressedTickRunsButtonsThenActionThenHolds : Obligations.PressedTickRunsButtonsThenActionThenHolds := by
  unfold Obligations.PressedTickRunsButtonsThenActionThenHolds
  intro s hu
  obtain ⟨m, hm⟩ := action_completes (s := pressedButtons s) (by simpa using hu)
  refine ⟨pressedOps s.p, _, pressedButtons s, m, rfl, decode_pressed s.p, execAll_pressedOps s, decode_action _ _ _,
    (action_eq_exec _).symm.trans hm, ?_⟩
  rw [tPressed_eq hu, hm]
  rfl

/-- Settles O17: T_HELD's equation, with the guard of a repeat read as the three comparisons. -/
theorem heldTickReleasesCountsOrRepeats : Obligations.HeldTickReleasesCountsOrRepeats := by
  unfold Obligations.HeldTickReleasesCountsOrRepeats
  refine fun s => ⟨rfl, fun hu => ?_⟩
  intro d r due c
  have hdue : s.repeatDue = true ↔ due := by
    simp only [State.repeatDue, State.channelActive, Bool.and_eq_true, decide_eq_true_eq, bne_iff_ne, and_assoc]
    rfl
  refine ⟨fun hp => tHeld_release hu (noneDown_iff.2 hp), fun h h3 => ?inc, fun h h3 h4 => ?dec, fun hp h => ?count⟩
  case inc =>
    obtain ⟨t, ht⟩ : ∃ t, exec .repInc c = .next t := repInc_completes hu
    exact ⟨t, ht, (tHeld_inc hu h3 (hdue.2 h)).trans ht⟩
  case dec =>
    obtain ⟨t, ht⟩ : ∃ t, exec .repDec c = .next t := repDec_completes hu
    exact ⟨t, ht, (tHeld_dec hu h3 h4 (hdue.2 h)).trans ht⟩
  case count =>
    refine tHeld_count hu (noneDown_false_iff.2 hp) ?_
    rwa [← hdue, not_and_or, not_or, Bool.not_eq_true, Bool.not_eq_true, Bool.not_eq_true] at h

/-- Settles O18: both are one adjustment followed by format A's case, which completes with the sequencer idle. -/
theorem repeatAdjustsActsAndClearsTheRate : Obligations.RepeatAdjustsActsAndClearsTheRate := by
  unfold Obligations.RepeatAdjustsActsAndClearsTheRate
  exact fun s hu => ⟨_, decode_action _ _ _, repeatAdjust_completes hu (satInc s.level),
    repeatAdjust_completes hu (floorDec s.level)⟩

/-- Settles O20: the two ticks take the same branch, and a repeat does not read the mask. -/
theorem heldTickIgnoresToggleAndChannelButtons : Obligations.HeldTickIgnoresToggleAndChannelButtons := by
  unfold Obligations.HeldTickIgnoresToggleAndChannelButtons
  intro s t q hs hq h3 h4 h
  change exec .tHeld (s.samplePort q) = .next (t.samplePort q)
  obtain ⟨hu, ⟨hnone, -⟩ | ⟨-, p3, hdue, hr⟩ | ⟨-, p3, p4, hdue, hr⟩ | ⟨-, hno, rfl⟩⟩ := tHeld_next h
  · exact absurd (noneDown_iff.1 hnone) hs
  · exact (tHeld_inc (s := s.samplePort q) hu (h3.symm.trans p3) hdue).trans (repeatAdjust_samplePort q hr)
  · exact (tHeld_dec (s := s.samplePort q) hu (h3.symm.trans p3) (h4.symm.trans p4) hdue).trans
      (repeatAdjust_samplePort q hr)
  · rw [State.pressed, State.pressed, h3, h4] at hno
    exact tHeld_count hu (noneDown_false_iff.2 hq) hno

/-- Settles O21: the transition functions' cases one way, a tick for each listed pair the other. -/
theorem successorsOfStateAreExactlyTheListed : Obligations.SuccessorsOfStateAreExactlyTheListed := by
  unfold Obligations.SuccessorsOfStateAreExactlyTheListed
  refine ⟨fun a b => ⟨?_, exists_tick_of_mem_successors⟩, fun s q hu => ?_⟩
  · rintro ⟨s, t, q, rfl, h, rfl⟩
    rw [applyStimulus_tick] at h
    exact transition_state_mem_successors (s := s.samplePort q) h
  · rw [applyStimulus_tick]
    exact transition_completes (s := s.samplePort q) hu

/-- Settles O37: only T_PRESSED and T_HELD reach the sequencer. -/
theorem requestsComeOnlyFromPressesAndRepeats : Obligations.RequestsComeOnlyFromPressesAndRepeats := by
  unfold Obligations.RequestsComeOnlyFromPressesAndRepeats
  intro s t q h hbusy
  rw [applyStimulus_tick] at h
  by_cases hp : s.state = .buttonPressed
  · rw [hp] at h
    obtain ⟨hclr, hb⟩ := tPressed_busy h hbusy
    exact ⟨hclr, .inl ⟨hp, hb⟩⟩
  by_cases hh : s.state = .buttonHeld
  · rw [hh] at h
    obtain ⟨hclr, hdue, hdown⟩ := tHeld_busy h hbusy
    obtain ⟨hd, hr, hc⟩ := repeatDue_iff.1 hdue
    exact ⟨hclr, .inr ⟨hh, hd, hr, hc, hdown⟩⟩
  exact absurd (transition_leaves_idle (s := s.samplePort q) hp hh h) hbusy

/-- Settles O2: the TICK agent's word is the code of `state`. -/
theorem tickRunsTheFunctionOfTheCurrentState : Obligations.TickRunsTheFunctionOfTheCurrentState := by
  unfold Obligations.TickRunsTheFunctionOfTheCurrentState
  intro s q
  have htick : ∀ x, s.state = x → applyStimulus (.tick q) s = exec x.op (s.samplePort q) := by
    rintro x rfl
    exact applyStimulus_tick q s
  exact ⟨htick .idle, htick .debouncing, htick .buttonPressed, htick .buttonHeld, htick .buttonReleased⟩

/-- Settles O10: the two cases of T_IDLE's equation. -/
theorem idleTickStartsADebounce : Obligations.IdleTickStartsADebounce := by
  unfold Obligations.IdleTickStartsADebounce
  intro s hu
  rw [tIdle_eq hu]
  exact ⟨fun hp => if_neg (mt noneDown_iff.1 hp), fun hp => if_pos (noneDown_iff.2 hp)⟩

/-- Settles O11: the three cases of T_DEBOUNCE's equation. -/
theorem debounceTickReleasesCommitsOrCounts : Obligations.DebounceTickReleasesCommitsOrCounts := by
  unfold Obligations.DebounceTickReleasesCommitsOrCounts
  intro s hu
  rw [tDebounce_eq hu]
  refine ⟨fun hp => if_pos (noneDown_iff.2 hp), fun hp hd => ?_, fun hp hd => ?_⟩
  · rw [if_neg (mt noneDown_iff.1 hp), if_pos (debounceDone_iff.2 (by omega))]
    rfl
  · rw [if_neg (mt noneDown_iff.1 hp), if_neg (mt debounceDone_iff.1 (by omega))]
    rfl

/-- Settles O13: BTN0's two tests, read as conditions on `power_on` and `channel`. -/
theorem toggleButtonHasThreeCases : Obligations.ToggleButtonHasThreeCases := by
  unfold Obligations.ToggleButtonHasThreeCases
  intro s
  have hon : s.turnsOn = true ↔ s.power_on = false ∧ s.channel = .chNone := by simp [State.turnsOn]
  have hwide : s.widens = true ↔ s.power_on = true ∧ (s.channel = .chWarm ∨ s.channel = .chCool) := by
    simp [State.widens, State.singleChannel]
  refine ⟨fun hp hc => ?_, fun hp hc => ?_, fun h1 h2 => ?_⟩ <;> rw [exec, execBtn0, btn0]
  · rw [if_pos (hon.2 ⟨hp, hc⟩)]
    rfl
  · rw [if_neg (by simp [hon, hp]), if_pos (hwide.2 ⟨hp, hc⟩)]
    rfl
  · rw [if_neg (mt hon.1 h1), if_neg (mt hwide.1 h2)]
    rfl

/-- Settles O14: both are two register writes. -/
theorem channelButtonsSelectOneChannel : Obligations.ChannelButtonsSelectOneChannel := by
  unfold Obligations.ChannelButtonsSelectOneChannel
  exact fun s => ⟨rfl, rfl⟩

/-- Settles O15: BTN3 and BTN4 test for an active channel first. -/
theorem adjustButtonsNeedAChannel : Obligations.AdjustButtonsNeedAChannel := by
  unfold Obligations.AdjustButtonsNeedAChannel
  intro s
  have hactive : s.channelActive = true ↔ s.channel ≠ .chNone := bne_iff_ne
  rw [exec, exec, execBtn3, execBtn4, btn3, btn4]
  refine ⟨fun hc => ?_, fun hc => ?_⟩
  · have hnot : ¬ s.channelActive = true := fun h => hactive.1 h hc
    rw [if_neg hnot, if_neg hnot]
    exact ⟨rfl, rfl⟩
  · rw [if_pos (hactive.2 hc), if_pos (hactive.2 hc)]
    exact ⟨rfl, rfl⟩

/-- Settles O16: increasing stops at the ceiling, decreasing at the floor, and between them neither wraps. -/
theorem levelArithmeticSaturates : Obligations.LevelArithmeticSaturates := by
  unfold Obligations.LevelArithmeticSaturates satInc floorDec LEVEL_MAX LEVEL_MIN
  intro l
  constructor
  · split_ifs with hmax
    · subst hmax
      decide
    · bv_omega
  · split_ifs <;> bv_omega

/-- Settles O19: T_RELEASED has one case. -/
theorem releasedTickGoesIdle : Obligations.ReleasedTickGoesIdle := by
  unfold Obligations.ReleasedTickGoesIdle
  exact fun s hu => tReleased_eq hu

end Sys2Proof.Proofs
end

section
/-!
SUPPORT. What an action case requests is a function of `level` alone (R69 to R78).
-/

namespace Sys2Proof.Machine

variable {i : Instr} {s s' t t' : State}

/-- Two idle states with the same level: one action case issues the same request in both, or none in either. -/
theorem exec_action_request_congr (hf : i.format = .A) (hl : s.level = s'.level) (hu : s.useq = .uIdle) (hu' : s'.useq = .uIdle)
    (h : exec i s = .next t) (h' : exec i s' = .next t') :
    t.useq = t'.useq ∧ (t.useq = .uClr → t.req_la = t'.req_la ∧ t.req_lb = t'.req_lb) := by
  cases i with
  | actAdjNone | actNone =>
    cases h
    cases h'
    exact ⟨hu.trans hu'.symm, fun hclr => by simp [hu] at hclr⟩
  | actToggleOn | actToggleOff | actCool | actWarm | actAdjBoth | actAdjCool | actAdjWarm =>
    obtain ⟨-, rfl⟩ := request_next_iff.1 h
    obtain ⟨-, rfl⟩ := request_next_iff.1 h'
    exact ⟨rfl, fun _ => by simp [hl]⟩
  | _ => cases hf

end Sys2Proof.Machine
end

section
/-!
PROOFS. The obligations about the Action Dispatcher.
-/

namespace Sys2Proof.Proofs

open Sys2Proof.Machine

/-- Settles O27: the format A word selects the case that `action()` runs; in two states with equal settings it is the same case. -/
theorem actionIsAFunctionOfTheSettings : Obligations.ActionIsAFunctionOfTheSettings := by
  unfold Obligations.ActionIsAFunctionOfTheSettings
  refine ⟨fun s => ⟨_, decode_action _ _ _, action_eq_exec s⟩, fun s t h => ?frame,
    fun s s' t t' hb hp hc hl hu hu' h h' => ?same⟩
  case frame =>
    obtain ⟨la, lb, u, ind, ht, hind, -⟩ := action_shape h
    exact ⟨la, lb, u, ind, ht, hind⟩
  case same =>
    rw [action_eq_exec, hp, hc, hb] at h
    rw [action_eq_exec] at h'
    exact exec_action_request_congr (actionOp_format _ _ _) hl hu hu' h h'

/-- Settles O25: each case is one BSET, which an idle sequencer latches; ACT_TOGGLE_OFF's is issued with the indicator cleared. -/
theorem actionCasesIssueTheirRequest : Obligations.ActionCasesIssueTheirRequest := by
  unfold Obligations.ActionCasesIssueTheirRequest
  intro s hu
  have latched := request_idle hu
  have latched_off := request_idle (s := s.setIndicator false) hu
  exact ⟨latched _ _, latched_off _ _, latched _ _, latched _ _, latched _ _, latched _ _, latched _ _⟩

/-- Settles O26: both cases answer the state they are given (D14). -/
theorem emptyActionCasesDoNothing : Obligations.EmptyActionCasesDoNothing := by
  unfold Obligations.EmptyActionCasesDoNothing
  exact fun s => ⟨rfl, rfl⟩

end Sys2Proof.Proofs
end

section
/-!
SUPPORT. What a tick does to the request latch and the sequencer's step (R23, R79): it leaves them, or it latches one request.
-/

namespace Sys2Proof.Machine

variable {s t : State}

/-- The sequencer's step and the request latch, R23's three registers. -/
def State.requestRegisters (s : State) : Useq × Level × Level := (s.useq, s.req_la, s.req_lb)

/-- Equal `requestRegisters` are equal register by register. -/
theorem requestRegisters_eq_iff :
    t.requestRegisters = s.requestRegisters ↔ t.useq = s.useq ∧ t.req_la = s.req_la ∧ t.req_lb = s.req_lb := by
  simp [State.requestRegisters]

@[simp] theorem pressedButtons_requestRegisters (s : State) : (pressedButtons s).requestRegisters = s.requestRegisters := by
  obtain ⟨_, _, _, _, e⟩ := pressedButtons_frame s
  rw [e]
  rfl

/-- Taking a stimulus moves the model's own list or counter, no register of the Brightness Engine. -/
@[simp] theorem takeStimulus_requestRegisters (s : State) : s.takeStimulus.requestRegisters = s.requestRegisters := by
  unfold State.takeStimulus
  split <;> rfl

@[simp] theorem takeStimulus_pwmRegisters (s : State) : s.takeStimulus.pwmRegisters = s.pwmRegisters := by
  unfold State.takeStimulus
  split <;> rfl

/-- The operation of a value of `state` is one of format S. -/
@[simp] theorem state_op_format (x : FsmState) : x.op.format = .S := by cases x <;> rfl

theorem tPressed_request (h : exec .tPressed s = .next t) :
    t.requestRegisters = s.requestRegisters ∨ ∃ la lb, t.requestRegisters = (s.latchRequest la lb).requestRegisters := by
  obtain ⟨-, m, hm, rfl⟩ := tPressed_next h
  rcases action_next hm with ⟨rfl, -⟩ | ⟨-, la, lb, rfl⟩ | ⟨-, -, -, rfl⟩
  · exact .inl (pressedButtons_requestRegisters s)
  · exact .inr ⟨la, lb, rfl⟩
  · exact .inr ⟨_, _, rfl⟩

/-- A repeat that is due has a channel active, so it requests (R63 to R65). -/
theorem tHeld_request (h : exec .tHeld s = .next t) :
    t.requestRegisters = s.requestRegisters ∨ ∃ la lb, t.requestRegisters = (s.latchRequest la lb).requestRegisters := by
  have repeated {l : Level} (hdue : s.repeatDue = true) (hr : repeatAdjust l (countHeld s) = .next t) :
      ∃ la lb, t.requestRegisters = (s.latchRequest la lb).requestRegisters := by
    obtain ⟨-, -, hc⟩ := repeatDue_iff.1 hdue
    obtain ⟨-, la, lb, rfl⟩ := repeatAdjust_shape hr hc
    exact ⟨la, lb, rfl⟩
  rcases (tHeld_next h).2 with ⟨-, rfl⟩ | ⟨-, -, hdue, hr⟩ | ⟨-, -, -, hdue, hr⟩ | ⟨-, -, rfl⟩
  · exact .inl rfl
  · exact .inr (repeated hdue hr)
  · exact .inr (repeated hdue hr)
  · exact .inl rfl

/-- Every transition function runs with the sequencer idle (R104), and it leaves latch and sequencer or performs one BSET's writes. -/
theorem transition_request (h : exec s.state.op s = .next t) :
    s.useq = .uIdle ∧
      (t.requestRegisters = s.requestRegisters ∨ ∃ la lb, t.requestRegisters = (s.latchRequest la lb).requestRegisters) := by
  cases hst : s.state <;> rw [hst] at h
  case idle =>
    obtain ⟨hu, ⟨-, rfl⟩ | ⟨-, rfl⟩⟩ := tIdle_next h <;> exact ⟨hu, .inl rfl⟩
  case debouncing =>
    obtain ⟨hu, ⟨-, rfl⟩ | ⟨-, -, rfl⟩ | ⟨-, -, rfl⟩⟩ := tDebounce_next h <;> exact ⟨hu, .inl rfl⟩
  case buttonPressed => exact ⟨(tPressed_next h).1, tPressed_request h⟩
  case buttonHeld => exact ⟨(tHeld_next h).1, tHeld_request h⟩
  case buttonReleased =>
    obtain ⟨hu, rfl⟩ := tReleased_next h
    exact ⟨hu, .inl rfl⟩

end Sys2Proof.Machine
end

section
/-!
SUPPORT. The pairing property R86, operation by operation: a reset starts it, and BSET, each micro-operation and COMMIT keep it with
the history each of them makes; then ticks, sequencer steps and overflows, every stimulus, and every run.
-/

namespace Sys2Proof.Safety

open Sys2Proof.Machine

variable {h : History} {s t : State}

/-- The property speaks of the Brightness Engine's registers only. -/
theorem PairingInv.of_eq (hs : PairingInv h s) (hpwm : t.pwmRegisters = s.pwmRegisters)
    (hreq : t.requestRegisters = s.requestRegisters) : PairingInv h t := by
  obtain ⟨hen, ⟨ha, hb⟩, hla, hlb⟩ := pwmRegisters_eq_iff.1 hpwm
  obtain ⟨hu, hra, hrb⟩ := requestRegisters_eq_iff.1 hreq
  constructor
  · rw [hen, hu, ha, hb]; exact hs.flag_up
  · rw [hen, hu, hra, hrb]; exact hs.idle_latch
  · rw [hu, hra, hrb]; exact hs.busy_latch
  · rw [hu, ha, hra]; exact hs.wrote_a
  · rw [hu, hb, hrb]; exact hs.wrote_b
  · rw [hla, hlb]; exact hs.live

/-- From U_WRA to U_SET the flag is down (R80). -/
theorem PairingInv.flag_down (hs : PairingInv h s) (hidle : s.useq ≠ .uIdle) (hclr : s.useq ≠ .uClr) : s.sync_en = false := by
  by_contra hen
  obtain ⟨hu | hu, -⟩ := hs.flag_up (by simpa using hen)
  · exact hidle hu
  · exact hclr hu

/-- After RESET no request is known, the flag is down and the live pair is 0, whatever the shadow pair holds (R28, R99). -/
theorem pairingInv_of_reset (ht : exec .reset s = .next t) : PairingInv .fresh t := by
  cases ht
  constructor <;> simp [State.reset, History.fresh]

/-- R79: the latch holds the new request, while the shadow pair is still the armed one's. -/
theorem PairingInv.latchRequest (hs : PairingInv h s) (la lb : Level) :
    PairingInv { h with requested := some (la, lb) } (s.latchRequest la lb) := by
  constructor
  case flag_up => exact fun hen => ⟨.inr rfl, (hs.flag_up hen).2⟩
  case live => exact hs.live
  all_goals simp

/-- R81: lowering the flag ends the armed request's claim on the shadow pair. -/
theorem PairingInv.clr (hs : PairingInv h s) (hu : s.useq = .uClr) : PairingInv h ((s.setSyncEn false).setUseq .uWra) := by
  constructor
  case busy_latch => exact fun _ => hs.busy_latch (by simp [hu])
  case live => exact hs.live
  all_goals simp

/-- R82: shadow A is the latched request's; the flag is down. -/
theorem PairingInv.wra (hs : PairingInv h s) (hu : s.useq = .uWra) : PairingInv h ((s.setShadowA s.targetA).setUseq .uWrb) := by
  have hen : s.sync_en = false := hs.flag_down (by simp [hu]) (by simp [hu])
  constructor
  case busy_latch => exact fun _ => hs.busy_latch (by simp [hu])
  case wrote_a => exact fun _ => rfl
  case live => exact hs.live
  all_goals simp [hen]

/-- R83: shadow B is the latched request's as well; the flag is still down. -/
theorem PairingInv.wrb (hs : PairingInv h s) (hu : s.useq = .uWrb) : PairingInv h ((s.setShadowB s.targetB).setUseq .uSet) := by
  have hen : s.sync_en = false := hs.flag_down (by simp [hu]) (by simp [hu])
  constructor
  case busy_latch => exact fun _ => hs.busy_latch (by simp [hu])
  case wrote_a => exact fun _ => hs.wrote_a (.inl hu)
  case wrote_b => exact fun _ => rfl
  case live => exact hs.live
  all_goals simp [hen]

/-- R84: the flag goes up on a shadow pair that is wholly the latched request's, which is thereby armed. -/
theorem PairingInv.set (hs : PairingInv h s) (hu : s.useq = .uSet) :
    PairingInv { h with armed := h.requested } ((s.setSyncEn true).setUseq .uIdle) := by
  have harmed : h.requested = some (s.req_la, s.req_lb) := hs.busy_latch (by simp [hu])
  constructor
  case flag_up => exact fun _ => ⟨.inl rfl, _, harmed, hs.wrote_a (.inr hu), hs.wrote_b hu⟩
  case idle_latch => exact fun _ _ => harmed
  case live => exact hs.live
  all_goals simp

/-- R85: with the flag up the live pair becomes the armed request's, both halves of it. -/
theorem PairingInv.commit (hs : PairingInv h s) (hen : s.sync_en = true) :
    PairingInv { h with committed := h.armed } (s.setLive s.shadow_a s.shadow_b) := by
  constructor
  case live => exact .inr (hs.flag_up hen).2
  case flag_up => exact hs.flag_up
  case idle_latch => exact hs.idle_latch
  case busy_latch => exact hs.busy_latch
  case wrote_a => exact hs.wrote_a
  case wrote_b => exact hs.wrote_b

/-- A tick leaves the Brightness Engine alone or performs one BSET's writes, which the history reads off the latch. -/
theorem PairingInv.tick (hs : PairingInv h s) (ht : exec s.state.op s = .next t) : PairingInv (h.afterTick t) t := by
  have hpwm : t.pwmRegisters = s.pwmRegisters := transition_keeps_pwmRegisters (state_op_format _) ht
  unfold History.afterTick
  obtain ⟨hidle, hkeep | ⟨la, lb, hlatch⟩⟩ := transition_request ht
  · obtain ⟨hu, -⟩ := requestRegisters_eq_iff.1 hkeep
    rw [if_neg (by simp [hu, hidle])]
    exact hs.of_eq hpwm hkeep
  · obtain ⟨hu, hla, hlb⟩ := requestRegisters_eq_iff.1 hlatch
    rw [if_pos (by simpa using hu), hla, hlb]
    exact (hs.latchRequest la lb).of_eq hpwm hlatch

/-- U_SET alone arms the latest request (R84). -/
theorem afterUpd_set (hu : s.useq = .uSet) : h.afterUpd s = { h with armed := h.requested } := if_pos hu

theorem afterUpd_of_ne_set (hu : s.useq ≠ .uSet) : h.afterUpd s = h := if_neg hu

/-- The history of a sequencer step reads `useq` alone. -/
theorem afterUpd_congr (hu : t.useq = s.useq) : h.afterUpd t = h.afterUpd s := by
  rw [History.afterUpd, History.afterUpd, hu]

/-- A sequencer step, U_IDLE included, by the value of `useq`. -/
theorem PairingInv.upd (hs : PairingInv h s) (ht : exec s.useq.op s = .next t) : PairingInv (h.afterUpd s) t := by
  by_cases hset : s.useq = .uSet
  · rw [hset] at ht
    cases ht
    rw [afterUpd_set hset]
    exact hs.set hset
  · rw [afterUpd_of_ne_set hset]
    rcases updAgent_next ht with ⟨-, rfl⟩ | ⟨hu, rfl⟩ | ⟨hu, rfl⟩ | ⟨hu, rfl⟩ | ⟨hu, -⟩
    · exact hs
    · exact hs.clr hu
    · exact hs.wra hu
    · exact hs.wrb hu
    · exact absurd hu hset

/-- An overflow commits, or it does nothing. -/
theorem PairingInv.ovf (hs : PairingInv h s) (ht : Machine.applyStimulus .ovf s = .next t) : PairingInv (h.afterOvf s) t := by
  rw [applyStimulus_ovf] at ht
  cases ht
  unfold History.afterOvf
  split_ifs with hen
  · exact hs.commit hen
  · exact hs

/-- A clock edge without reset: an overflow if there is one, then the tick or the sequencer's step (R92, R107). -/
theorem PairingInv.edge {v : BitVec 8} (hs : PairingInv h s) (hrst : byteRst v = false)
    (ht : Machine.applyStimulus (.edge v) s = .next t) : PairingInv (h.after (.edge v) s t) t := by
  simp only [Machine.applyStimulus, edgeAgents, hrst, Bool.false_eq_true, if_false] at ht
  obtain ⟨u, hu, ht⟩ := andThen_next_iff.1 ht
  have hmid : u.useq = s.useq ∧ PairingInv (if byteOvf v then h.afterOvf s else h) u := by
    split_ifs at hu ⊢
    · exact ⟨ovf_next_useq hu, hs.ovf hu⟩
    · cases hu
      exact ⟨rfl, hs⟩
  obtain ⟨huseq, hinv⟩ := hmid
  simp only [History.after, hrst, Bool.false_eq_true, if_false]
  cases htick : byteTick v <;> simp only [htick, Bool.false_eq_true, if_false, if_true] at ht ⊢
  case false =>
    rw [updAgent_eq] at ht
    exact afterUpd_congr huseq ▸ hinv.upd ht
  case true =>
    have hsampled : PairingInv _ (u.samplePort (bytePressed v)) := hinv.of_eq rfl rfl
    rw [tickAgent_eq] at ht
    exact hsampled.tick ht

/-- Every stimulus keeps the pairing property, with the history it makes. -/
theorem PairingInv.applyStimulus {x : Stimulus} (hs : PairingInv h s) (ht : Machine.applyStimulus x s = .next t) :
    PairingInv (h.after x s t) t := by
  cases x with
  | reset => exact pairingInv_of_reset (by simpa [Machine.applyStimulus] using ht)
  | tick q =>
    rw [applyStimulus_tick] at ht
    have hsampled : PairingInv h (s.samplePort q) := hs.of_eq rfl rfl
    exact hsampled.tick ht
  | uop =>
    by_cases hu : s.useq = .uIdle
    · simp [Machine.applyStimulus, hu] at ht
    · rw [applyStimulus_uop_busy hu, updAgent_eq] at ht
      exact hs.upd ht
  | ovf => exact hs.ovf ht
  | edge v =>
    cases hrst : byteRst v with
    | true =>
      rw [edge_rst hrst] at ht
      simpa [History.after, hrst] using pairingInv_of_reset (by simpa [Machine.applyStimulus] using ht)
    | false => exact hs.edge hrst ht

/-- The history reads `useq` and `sync_en` of the state before, which taking a stimulus leaves alone. -/
theorem after_takeStimulus (x : Stimulus) (s t : State) (h : History) : h.after x s.takeStimulus t = h.after x s t := by
  simp [History.after, History.afterUpd, History.afterOvf]

/-- The pairing property along a whole run. -/
theorem PairingInv.along {xs : List Stimulus} (hs : PairingInv h s) (ht : applyAll xs s = .next t) :
    PairingInv (History.along xs s h) t := by
  induction xs generalizing s h with
  | nil =>
    cases ht
    exact hs
  | cons x xs ih =>
    obtain ⟨m, hm, hrest⟩ := andThen_next_iff.1 ht
    simp only [History.along, hm]
    exact ih (hs.applyStimulus hm) hrest

end Sys2Proof.Safety
end

section
/-!
SUPPORT. The update protocol with overflows anywhere around its micro-operations (R40, R80).
-/

namespace Sys2Proof.Machine

variable {s t u : State}

/-- The live pair after `n` overflows with the shadow pair unchanged (R85). -/
def State.liveAfter (n : Nat) (s : State) : Target × Target :=
  if s.sync_en = true ∧ 0 < n then (s.shadow_a, s.shadow_b) else (s.live_a, s.live_b)

/-- Any number of overflows, as one write of the live pair. -/
theorem ovfs_eq (n : Nat) (s : State) :
    applyAll (List.replicate n .ovf) s = .next (s.setLive (s.liveAfter n).1 (s.liveAfter n).2) := by
  unfold State.liveAfter
  cases hen : s.sync_en
  · rw [ovfs_down n hen, if_neg (by simp)]
    rfl
  · rw [ovfs_up n hen]
    cases n <;> rfl

@[simp] theorem liveAfter_zero (s : State) : s.liveAfter 0 = (s.live_a, s.live_b) := if_neg (by simp)

/-- A run, then overflows, then one micro-operation. -/
theorem applyAll_ovfs_uop {xs : List Stimulus} {n : Nat} (hrun : applyAll xs s = .next t)
    (hovfs : applyAll (List.replicate n .ovf) t = .next u) :
    applyAll (xs ++ List.replicate n .ovf ++ [.uop]) s = applyStimulus .uop u := by
  rw [applyAll_append, applyAll_append, hrun, andThen_next, hovfs, andThen_next, applyAll_one]

/-- One request's four micro-operations with `n₀` to `n₄` overflows before, between and after them. -/
def protocolRun (n₀ n₁ n₂ n₃ n₄ : Nat) : List Stimulus :=
  let ovfs (n : Nat) : List Stimulus := List.replicate n .ovf
  ovfs n₀ ++ [.uop] ++ ovfs n₁ ++ [.uop] ++ ovfs n₂ ++ [.uop] ++ ovfs n₃ ++ [.uop] ++ ovfs n₄

/-- The state a request's protocol ends in: the shadow pair is the request's, the flag is up, and the live pair is as given. -/
def State.updated (live : Target × Target) (s : State) : State :=
  { s with useq := .uIdle, sync_en := true, shadow_a := LUT_A s.req_la, shadow_b := LUT_B s.req_lb,
           live_a := live.1, live_b := live.2 }

/-- Overflows before U_CLR may commit the previous pair, those from U_CLR to U_SET find the flag down, those after U_SET commit the new
pair. -/
theorem applyAll_protocolRun (n₀ n₁ n₂ n₃ n₄ : Nat) (hu : s.useq = .uClr) :
    applyAll (protocolRun n₀ n₁ n₂ n₃ n₄) s =
      .next (s.updated (if 0 < n₄ then targets s.req_la s.req_lb else s.liveAfter n₀)) := by
  let s₀ : State := s.setLive (s.liveAfter n₀).1 (s.liveAfter n₀).2
  let s₁ : State := (s₀.setSyncEn false).setUseq .uWra
  let s₂ : State := (s₁.setShadowA s₁.targetA).setUseq .uWrb
  let s₃ : State := (s₂.setShadowB s₂.targetB).setUseq .uSet
  have h₁ := (applyAll_ovfs_uop (xs := []) rfl (ovfs_eq n₀ s)).trans (uop_clr (s := s₀) hu)
  have h₂ := (applyAll_ovfs_uop h₁ (ovfs_down n₁ rfl)).trans (uop_wra (s := s₁) rfl)
  have h₃ := (applyAll_ovfs_uop h₂ (ovfs_down n₂ rfl)).trans (uop_wrb (s := s₂) rfl)
  have h₄ := (applyAll_ovfs_uop h₃ (ovfs_down n₃ rfl)).trans (uop_set (s := s₃) rfl)
  have hend : (s₃.setSyncEn true).setUseq .uIdle = s.updated (s.liveAfter n₀) := by
    apply State.ext <;> simp [s₀, s₁, s₂, s₃, State.updated, State.targetA, State.targetB, LUT_A, LUT_B]
  rw [hend, List.nil_append] at h₄
  rw [protocolRun, applyAll_append, h₄, andThen_next, ovfs_up n₄ rfl]
  split_ifs <;> rfl

end Sys2Proof.Machine
end

section
/-!
PROOFS. The obligations about the Brightness Engine.
-/

namespace Sys2Proof.Proofs

open Sys2Proof.Machine Sys2Proof.Safety

/-- Settles O47: taking the stimulus changes no register the property speaks of, and every stimulus keeps it. -/
theorem stepKeepsThePairing : Obligations.StepKeepsThePairing := by
  unfold Obligations.StepKeepsThePairing
  intro h s t hs ht
  have htaken : PairingInv h s.takeStimulus := hs.of_eq (takeStimulus_pwmRegisters s) (takeStimulus_requestRegisters s)
  rw [← after_takeStimulus]
  exact htaken.applyStimulus ht

/-- Settles O48: the reset state meets the property with the fresh history, and every stimulus keeps it. -/
theorem everyRunFromResetKeepsThePairing : Obligations.EveryRunFromResetKeepsThePairing := by
  unfold Obligations.EveryRunFromResetKeepsThePairing
  obtain ⟨-, -, -, hreset⟩ := resetStateMeetsTheInvariants
  exact fun xs t ht => hreset.along ht

/-- Settles O32: the four micro-operations chained, with the flag's value deciding what the overflows between them do. -/
theorem protocolHidesHalfWrittenPairs : Obligations.ProtocolHidesHalfWrittenPairs := by
  unfold Obligations.ProtocolHidesHalfWrittenPairs
  exact fun s n₀ n₁ n₂ n₃ n₄ hu => applyAll_protocolRun n₀ n₁ n₂ n₃ n₄ hu

/-- Settles O28: BSET's test of `useq`, and the protocol without overflows. -/
theorem requestIsLatchedWhenTheSequencerIsIdle : Obligations.RequestIsLatchedWhenTheSequencerIsIdle := by
  unfold Obligations.RequestIsLatchedWhenTheSequencerIsIdle
  refine fun s la lb => ⟨fun hu => ⟨request_idle hu la lb, ?protocol⟩, fun hu => if_neg hu⟩
  case protocol =>
    have hrun := applyAll_protocolRun (s := s.latchRequest la lb) 0 0 0 0 0 rfl
    rwa [if_neg (lt_irrefl 0), liveAfter_zero] at hrun

/-- Settles O31: the protocol with one overflow at its end; the tables are non-decreasing. -/
theorem requestReachesTheOutputs : Obligations.RequestReachesTheOutputs := by
  unfold Obligations.RequestReachesTheOutputs
  refine ⟨fun s la lb hu => ?outputs, fun i j hij => ⟨memRead_mono .lutA hij, memRead_mono .lutB hij⟩⟩
  case outputs =>
    have hbset : exec (.bset la lb) s = .next (s.latchRequest la lb) := request_idle hu la lb
    rw [hbset, andThen_next]
    exact ⟨_, applyAll_protocolRun 0 0 0 0 1 rfl, rfl, rfl⟩

/-- Settles O29: each micro-operation is the register writes it is defined by. -/
theorem microOperationsWriteTheirRegisters : Obligations.MicroOperationsWriteTheirRegisters := by
  unfold Obligations.MicroOperationsWriteTheirRegisters
  exact fun s => ⟨rfl, rfl, rfl, rfl, rfl⟩

/-- Settles O30: an overflow is COMMIT or COMMIT_NOP by the flag. -/
theorem overflowCommitsBothOrNothing : Obligations.OverflowCommitsBothOrNothing := by
  unfold Obligations.OverflowCommitsBothOrNothing
  refine fun s => ⟨rfl, rfl, fun hen => ?_, fun hen => ?_⟩
  · rw [applyStimulus_ovf, if_pos hen]
    rfl
  · rw [applyStimulus_ovf, if_neg (by simp [hen])]

end Sys2Proof.Proofs
end

section
/-!
SUPPORT. The Button State Machine reads no register of the update protocol (R40, R89): what a tick answers commutes with other values
in these registers, shown for each way the transition functions are put together, then for each of them.
-/

namespace Sys2Proof.Machine

variable {f g : State → State} {k l : State → Result} {c : State → Prop} [DecidablePred c]

/-- The state with other values in the registers of the update protocol. -/
def State.withPwm (r : Bool × (Target × Target) × (Target × Target)) (s : State) : State :=
  { s with sync_en := r.1, shadow_a := r.2.1.1, shadow_b := r.2.1.2, live_a := r.2.2.1, live_b := r.2.2.2 }

/-- An update neither reads nor writes the registers of the update protocol. -/
def UpdateIgnoresPwm (f : State → State) : Prop := ∀ r s, f (s.withPwm r) = (f s).withPwm r

/-- A meaning neither reads nor writes them: with other values there it answers the same, with those values, and stops alike. -/
def IgnoresPwm (k : State → Result) : Prop := ∀ r s, k (s.withPwm r) = andThen (k s) fun t => .next (t.withPwm r)

theorem UpdateIgnoresPwm.comp (hg : UpdateIgnoresPwm g) (hf : UpdateIgnoresPwm f) : UpdateIgnoresPwm fun s => g (f s) := by
  intro r s
  simp only [hf r s, hg r (f s)]

theorem UpdateIgnoresPwm.ite (hc : ∀ r s, c (s.withPwm r) ↔ c s) (hf : UpdateIgnoresPwm f) (hg : UpdateIgnoresPwm g) :
    UpdateIgnoresPwm fun s => if c s then f s else g s := by
  intro r s
  by_cases h : c s
  · simp only [if_pos h, if_pos ((hc r s).2 h)]
    exact hf r s
  · simp only [if_neg h, if_neg (mt (hc r s).1 h)]
    exact hg r s

theorem IgnoresPwm.next (hf : UpdateIgnoresPwm f) : IgnoresPwm fun s => .next (f s) :=
  fun r s => congrArg Host.Outcome.next (hf r s)

theorem IgnoresPwm.comp (hk : IgnoresPwm k) (hf : UpdateIgnoresPwm f) : IgnoresPwm fun s => k (f s) := by
  intro r s
  simp only [hf r s, hk r (f s)]

theorem IgnoresPwm.andThen (hk : IgnoresPwm k) (hl : IgnoresPwm l) : IgnoresPwm fun s => andThen (k s) l := by
  intro r s
  simp only [hk r s, andThen_assoc, andThen_next]
  exact congrArg _ (funext (hl r))

theorem IgnoresPwm.ite (hc : ∀ r s, c (s.withPwm r) ↔ c s) (hk : IgnoresPwm k) (hl : IgnoresPwm l) :
    IgnoresPwm fun s => if c s then k s else l s := by
  intro r s
  by_cases h : c s
  · simp only [if_pos h, if_pos ((hc r s).2 h)]
    exact hk r s
  · simp only [if_neg h, if_neg (mt (hc r s).1 h)]
    exact hl r s

/-- The test of `useq` that makes a tick admissible. -/
theorem IgnoresPwm.atTick (hk : IgnoresPwm k) : IgnoresPwm fun s => atTick s (k s) :=
  .ite (fun _ _ => Iff.rfl) hk fun _ _ => rfl

theorem request_ignoresPwm (la lb : Level) : IgnoresPwm (request la lb) :=
  .ite (fun _ _ => Iff.rfl) (.next fun _ _ => rfl) fun _ _ => rfl

theorem exec_action_ignoresPwm {i : Instr} (hf : i.format = .A) : IgnoresPwm (exec i) := by
  intro r s
  cases i with
  | actAdjNone | actNone => rfl
  | actToggleOff => exact request_ignoresPwm _ _ r (s.setIndicator false)
  | actToggleOn | actCool | actWarm | actAdjBoth | actAdjCool | actAdjWarm => exact request_ignoresPwm _ _ r s
  | _ => cases hf

theorem action_ignoresPwm : IgnoresPwm action := by
  intro r s
  rw [action_eq_exec, action_eq_exec]
  exact exec_action_ignoresPwm (actionOp_format _ _ _) r s

/-- One button of the scan: the mask is no register of the update protocol. -/
theorem UpdateIgnoresPwm.ifPressed (i : Nat) (hf : UpdateIgnoresPwm f) : UpdateIgnoresPwm (ifPressed i f) :=
  .ite (fun _ _ => Iff.rfl) hf fun _ _ => rfl

theorem pressedButtons_ignoresPwm : UpdateIgnoresPwm pressedButtons := by
  have h0 : UpdateIgnoresPwm btn0 :=
    .ite (fun _ _ => Iff.rfl) (fun _ _ => rfl) (.ite (fun _ _ => Iff.rfl) (fun _ _ => rfl) fun _ _ => rfl)
  have h1 : UpdateIgnoresPwm btn1 := fun _ _ => rfl
  have h2 : UpdateIgnoresPwm btn2 := fun _ _ => rfl
  have h3 : UpdateIgnoresPwm btn3 := .ite (fun _ _ => Iff.rfl) (fun _ _ => rfl) fun _ _ => rfl
  have h4 : UpdateIgnoresPwm btn4 := .ite (fun _ _ => Iff.rfl) (fun _ _ => rfl) fun _ _ => rfl
  exact (h4.ifPressed 4).comp <| (h3.ifPressed 3).comp <| (h2.ifPressed 2).comp <| (h1.ifPressed 1).comp <| h0.ifPressed 0

theorem repeatAdjust_ignoresPwm (l : Level) : IgnoresPwm (repeatAdjust l) :=
  (action_ignoresPwm.comp fun _ _ => rfl).andThen (.next fun _ _ => rfl)

theorem tHeld_ignoresPwm : IgnoresPwm (exec .tHeld) := by
  have count : UpdateIgnoresPwm countHeld := fun _ _ => rfl
  have release : IgnoresPwm execHeldRelease := .next fun _ _ => rfl
  have inc : IgnoresPwm execRepInc := fun r s => repeatAdjust_ignoresPwm _ r s
  have dec : IgnoresPwm execRepDec := fun r s => repeatAdjust_ignoresPwm _ r s
  exact .atTick <| .ite (fun _ _ => Iff.rfl) release <| .ite (fun _ _ => Iff.rfl) (inc.comp count) <|
    .ite (fun _ _ => Iff.rfl) (dec.comp count) (.next count)

/-- Each transition function, as it is put together in the model. -/
theorem transition_ignoresPwm (x : FsmState) : IgnoresPwm (exec x.op) := by
  cases x with
  | idle => exact .atTick (.ite (fun _ _ => Iff.rfl) (.next fun _ _ => rfl) (.next fun _ _ => rfl))
  | debouncing =>
    exact .atTick <| .ite (fun _ _ => Iff.rfl) (.next fun _ _ => rfl) <|
      .ite (fun _ _ => Iff.rfl) (.next fun _ _ => rfl) (.next fun _ _ => rfl)
  | buttonPressed => exact .atTick ((action_ignoresPwm.comp pressedButtons_ignoresPwm).andThen (.next fun _ _ => rfl))
  | buttonHeld => exact tHeld_ignoresPwm
  | buttonReleased => exact .atTick (.next fun _ _ => rfl)

theorem applyStimulus_tick_ignoresPwm (q : Pressed) : IgnoresPwm (applyStimulus (.tick q)) := by
  intro r s
  rw [applyStimulus_tick, applyStimulus_tick]
  exact transition_ignoresPwm s.state r (s.samplePort q)

end Sys2Proof.Machine
end

section
/-!
SUPPORT. A tick and an overflow at one clock edge commute: neither touches what the other reads (R92 (2)).
-/

namespace Sys2Proof.Machine

variable {s t : State} {v : BitVec 8}

/-- What an overflow makes of the registers of the update protocol: with the flag up, the live pair becomes the shadow pair (R85). -/
def afterOverflow (r : Bool × (Target × Target) × (Target × Target)) : Bool × (Target × Target) × (Target × Target) :=
  if r.1 then (r.1, r.2.1, r.2.1) else r

/-- An overflow reads and writes the registers of the update protocol alone. -/
theorem applyStimulus_ovf_withPwm (s : State) : applyStimulus .ovf s = .next (s.withPwm (afterOverflow s.pwmRegisters)) := by
  rw [applyStimulus_ovf, afterOverflow, State.pwmRegisters]
  split_ifs <;> rfl

theorem tick_keeps_pwmRegisters {q : Pressed} (h : applyStimulus (.tick q) s = .next t) : t.pwmRegisters = s.pwmRegisters := by
  rw [applyStimulus_tick] at h
  have hsampled : t.pwmRegisters = (s.samplePort q).pwmRegisters := transition_keeps_pwmRegisters (state_op_format s.state) h
  exact hsampled

/-- Where the tick is refused, so it is after the overflow, for the same reason. -/
theorem tick_ovf_comm (q : Pressed) (s : State) : applyAll [.tick q, .ovf] s = applyAll [.ovf, .tick q] s := by
  have hovf : applyAll [.ovf, .tick q] s =
      andThen (applyStimulus (.tick q) s) fun t => .next (t.withPwm (afterOverflow s.pwmRegisters)) := by
    rw [applyAll, applyStimulus_ovf_withPwm, andThen_next, applyAll_one]
    exact applyStimulus_tick_ignoresPwm q _ s
  rw [hovf, applyAll]
  cases htick : applyStimulus (.tick q) s with
  | next t => rw [andThen_next, andThen_next, applyAll_one, applyStimulus_ovf_withPwm, tick_keeps_pwmRegisters htick]
  | fault e => cases e
  | refused e => rfl

/-- An edge with a tick and an overflow runs the overflow first. -/
theorem edge_tick_and_ovf (hr : byteRst v = false) (ht : byteTick v = true) (ho : byteOvf v = true) :
    applyStimulus (.edge v) s = applyAll [.ovf, .tick (bytePressed v)] s := by
  have hedge : applyStimulus (.edge v) s = andThen (applyStimulus .ovf s) (applyStimulus (.tick (bytePressed v))) := by
    simp only [applyStimulus, edgeAgents, hr, ht, ho, Bool.false_eq_true, if_false, if_true]
    rfl
  rw [hedge, applyAll, funext (applyAll_one _)]

end Sys2Proof.Machine
end

section
/-!
PROOFS. The obligations about the order of events at a clock edge.
-/

namespace Sys2Proof.Proofs

open Sys2Proof.Machine

/-- Settles O38: a tick commutes with other values in the registers of the update protocol. -/
theorem ticksIgnoreTheBrightnessRegisters : Obligations.TicksIgnoreTheBrightnessRegisters := by
  unfold Obligations.TicksIgnoreTheBrightnessRegisters
  intro s t q sy sa sb a b h
  have hcomm := applyStimulus_tick_ignoresPwm q (sy, (sa, sb), (a, b)) s
  rw [h, andThen_next] at hcomm
  exact hcomm

/-- Settles O41: the bits of the byte say which agents the edge runs, and a tick commutes with an overflow. -/
theorem edgeRunsItsEventsInOrder : Obligations.EdgeRunsItsEventsInOrder := by
  unfold Obligations.EdgeRunsItsEventsInOrder
  intro v s
  refine ⟨edge_rst, edge_tick_only, fun hr ht ho => ?both, fun hr ht ho hu => ?ovfBusy, fun hr ht ho hu => ?ovfIdle,
    fun hr ht ho hu => ?quietBusy, fun hr ht ho hu => ?quietIdle⟩
  case both =>
    have hedge := edge_tick_and_ovf (s := s) hr ht ho
    exact ⟨hedge.trans (tick_ovf_comm _ s).symm, hedge⟩
  case ovfBusy => rw [edge_ovf_only hr ht ho, andThen_ovf_updAgent, if_neg hu]
  case ovfIdle => rw [edge_ovf_only hr ht ho, andThen_ovf_updAgent, if_pos hu]
  case quietBusy => rw [edge_quiet hr ht ho, applyStimulus_uop_busy hu]
  case quietIdle => rw [edge_quiet hr ht ho, updAgent_idle hu]

end Sys2Proof.Proofs
end

section
/-!
SUPPORT. A clock edge without reset is its overflow's write of the live pair, followed by its tick or by the sequencer's step
(R92, R107).
-/

namespace Sys2Proof.Machine

variable {s t : State} {v : BitVec 8} {x : Stimulus}

/-- The state after the overflow of a clock edge: where there is one and the flag is up, the live pair is the shadow pair (R85). -/
def State.overflowed (ovf : Bool) (s : State) : State :=
  s.setLive (if ovf && s.sync_en then s.shadow_a else s.live_a) (if ovf && s.sync_en then s.shadow_b else s.live_b)

section overflowed
variable (ovf : Bool) (s : State)
@[simp] theorem overflowed_useq : (s.overflowed ovf).useq = s.useq := rfl
@[simp] theorem overflowed_sync_en : (s.overflowed ovf).sync_en = s.sync_en := rfl
@[simp] theorem overflowed_shadow_a : (s.overflowed ovf).shadow_a = s.shadow_a := rfl
@[simp] theorem overflowed_shadow_b : (s.overflowed ovf).shadow_b = s.shadow_b := rfl
@[simp] theorem overflowed_req_la : (s.overflowed ovf).req_la = s.req_la := rfl
@[simp] theorem overflowed_req_lb : (s.overflowed ovf).req_lb = s.req_lb := rfl

theorem overflowed_live : ((s.overflowed ovf).live_a, (s.overflowed ovf).live_b) =
    if ovf = true ∧ s.sync_en = true then (s.shadow_a, s.shadow_b) else (s.live_a, s.live_b) := by
  simp only [State.overflowed, Bool.and_eq_true]
  split_ifs <;> rfl
end overflowed

/-- With the flag down an overflow changes nothing. -/
theorem overflowed_of_flag_down (ovf : Bool) (h : s.sync_en = false) : s.overflowed ovf = s := by
  rw [State.overflowed, h, Bool.and_false]
  rfl

theorem applyStimulus_ovf_eq (s : State) : applyStimulus .ovf s = .next (s.overflowed true) := by
  rw [applyStimulus_ovf]
  cases h : s.sync_en <;> rw [State.overflowed, h] <;> rfl

/-- An edge without reset starts with its overflow, if it has one. -/
theorem edge_no_reset (hr : byteRst v = false) :
    applyStimulus (.edge v) s =
      if byteTick v then applyStimulus (.tick (bytePressed v)) (s.overflowed (byteOvf v))
      else updAgent (s.overflowed (byteOvf v)) := by
  have hovf : (if byteOvf v then ovfAgent s else .next s) = .next (s.overflowed (byteOvf v)) := by
    cases byteOvf v
    · rfl
    · exact applyStimulus_ovf_eq s
  simp only [applyStimulus, edgeAgents, hr, hovf, andThen_next, Bool.false_eq_true, if_false]

theorem edge_tick (hr : byteRst v = false) (ht : byteTick v = true) :
    applyStimulus (.edge v) s = applyStimulus (.tick (bytePressed v)) (s.overflowed (byteOvf v)) := by
  rw [edge_no_reset hr, if_pos ht]

theorem edge_upd (hr : byteRst v = false) (ht : byteTick v = false) :
    applyStimulus (.edge v) s = updAgent (s.overflowed (byteOvf v)) := by
  rw [edge_no_reset hr, if_neg (by simp [ht])]

/-- A stimulus is a reset, or it is made of at most an overflow and of a tick or a sequencer step on what that leaves. -/
theorem applyStimulus_cases (h : applyStimulus x s = .next t) :
    (exec .reset s = .next t ∧ (x = .reset ∨ ∃ v, x = .edge v ∧ byteRst v = true)) ∨
    (∃ ovf, t = s.overflowed ovf) ∨
    (∃ ovf q, applyStimulus (.tick q) (s.overflowed ovf) = .next t) ∨
    (∃ ovf, updAgent (s.overflowed ovf) = .next t) := by
  have hnone : s.overflowed false = s := rfl
  cases x with
  | reset => exact .inl ⟨by rwa [← resetAgent_eq], .inl rfl⟩
  | tick q => exact .inr (.inr (.inl ⟨false, q, h⟩))
  | uop =>
    by_cases hu : s.useq = .uIdle
    · simp [applyStimulus, hu] at h
    · exact .inr (.inr (.inr ⟨false, by rwa [hnone, ← applyStimulus_uop_busy hu]⟩))
  | ovf =>
    rw [applyStimulus_ovf_eq] at h
    cases h
    exact .inr (.inl ⟨true, rfl⟩)
  | edge v =>
    cases hr : byteRst v with
    | true =>
      rw [edge_rst hr] at h
      exact .inl ⟨by rwa [← resetAgent_eq], .inr ⟨v, rfl, hr⟩⟩
    | false =>
      cases ht : byteTick v with
      | true => exact .inr (.inr (.inl ⟨_, _, edge_tick hr ht ▸ h⟩))
      | false => exact .inr (.inr (.inr ⟨_, edge_upd hr ht ▸ h⟩))

end Sys2Proof.Machine
end

section
/-!
SUPPORT. The synchronisation flag and the shadow pair (R41, R103): ticks and overflows touch neither, and a sequencer step writes a
shadow register only from U_WRA or U_WRB, where the flag is down.
-/

namespace Sys2Proof.Safety

open Sys2Proof.Machine

variable {s t : State} {x : Stimulus}

/-- The invariant speaks of `sync_en` and `useq` only. -/
theorem FlagInv.of_eq (hs : FlagInv s) (hen : t.sync_en = s.sync_en) (hu : t.useq = s.useq) : FlagInv t := by
  rw [FlagInv, hen, hu]
  exact hs

/-- A tick leaves the sequencer idle, or at the U_CLR of a new request. -/
theorem flagInv_of_tick {q : Pressed} (h : Machine.applyStimulus (.tick q) s = .next t) : FlagInv t := by
  rw [applyStimulus_tick] at h
  obtain ⟨hidle, hkeep | ⟨la, lb, hlatch⟩⟩ := transition_request (s := s.samplePort q) h
  · obtain ⟨hu, -⟩ := requestRegisters_eq_iff.1 hkeep
    exact fun _ => .inl (hu.trans hidle)
  · obtain ⟨hu, -⟩ := requestRegisters_eq_iff.1 hlatch
    exact fun _ => .inr hu

/-- U_CLR takes the flag down, U_WRA and U_WRB find it down, and U_SET returns to U_IDLE. -/
theorem FlagInv.upd (hs : FlagInv s) (h : updAgent s = .next t) : FlagInv t := by
  have hdown (hidle : s.useq ≠ .uIdle) (hclr : s.useq ≠ .uClr) : s.sync_en ≠ true := fun hen => (hs hen).elim hidle hclr
  rw [updAgent_eq] at h
  rcases updAgent_next h with ⟨-, rfl⟩ | ⟨-, rfl⟩ | ⟨hu, rfl⟩ | ⟨hu, rfl⟩ | ⟨-, rfl⟩
  · exact hs
  · exact fun hen => by simp at hen
  · exact fun hen => absurd hen (hdown (by simp [hu]) (by simp [hu]))
  · exact fun hen => absurd hen (hdown (by simp [hu]) (by simp [hu]))
  · exact fun _ => .inl rfl

/-- With the flag up the sequencer is not at U_WRA or U_WRB, so its step writes no shadow register. -/
theorem FlagInv.upd_keeps_shadows (hs : FlagInv s) (hen : s.sync_en = true) (h : updAgent s = .next t) :
    t.shadow_a = s.shadow_a ∧ t.shadow_b = s.shadow_b := by
  rw [updAgent_eq] at h
  rcases hs hen with hu | hu <;> rw [hu] at h <;> cases h <;> exact ⟨rfl, rfl⟩

/-- Every stimulus keeps the invariant, and while the flag is up it leaves the shadow pair alone unless it is a reset. -/
theorem FlagInv.applyStimulus (hs : FlagInv s) (h : Machine.applyStimulus x s = .next t) :
    FlagInv t ∧
      (s.sync_en = true → (t.shadow_a = s.shadow_a ∧ t.shadow_b = s.shadow_b) ∨
        x = .reset ∨ ∃ v, x = .edge v ∧ byteRst v = true) := by
  have hov (ovf : Bool) : FlagInv (s.overflowed ovf) := hs.of_eq rfl rfl
  rcases applyStimulus_cases h with ⟨hreset, hx⟩ | ⟨ovf, rfl⟩ | ⟨ovf, q, htick⟩ | ⟨ovf, hupd⟩
  · cases hreset
    exact ⟨fun hen => by simp [State.reset] at hen, fun _ => .inr hx⟩
  · exact ⟨hov ovf, fun _ => .inl ⟨rfl, rfl⟩⟩
  · obtain ⟨-, hshadows, -⟩ := pwmRegisters_eq_iff.1 (tick_keeps_pwmRegisters htick)
    exact ⟨flagInv_of_tick htick, fun _ => .inl hshadows⟩
  · exact ⟨(hov ovf).upd hupd, fun hen => .inl ((hov ovf).upd_keeps_shadows hen hupd)⟩

end Sys2Proof.Safety
end

section
/-!
SUPPORT. Where a stimulus has a next state (R52, R104): a busy sequencer refuses ticks and requests, an idle one a UOP, and nothing
else is refused.
-/

namespace Sys2Proof.Machine

open Sys2Proof.Safety

variable {i : Instr} {s : State} {v : BitVec 8} {x : Stimulus}

theorem transition_busy (hf : i.format = .S) (hu : s.useq ≠ .uIdle) : exec i s = .refused .tickWhileUpdating := by
  cases i with
  | tIdle | tDebounce | tPressed | tHeld | tReleased => exact atTick_busy hu _
  | _ => cases hf

theorem tick_busy (q : Pressed) (hu : s.useq ≠ .uIdle) : applyStimulus (.tick q) s = .refused .tickWhileUpdating := by
  rw [applyStimulus_tick]
  exact transition_busy (state_op_format _) hu

theorem tick_completes (q : Pressed) (hu : s.useq = .uIdle) : ∃ t, applyStimulus (.tick q) s = .next t := by
  rw [applyStimulus_tick]
  exact transition_completes (s := s.samplePort q) hu

theorem edge_tick_busy (hr : byteRst v = false) (ht : byteTick v = true) (hu : s.useq ≠ .uIdle) :
    applyStimulus (.edge v) s = .refused .tickWhileUpdating := by
  rw [edge_tick hr ht]
  exact tick_busy _ (by simpa using hu)

theorem request_busy (la lb : Level) (hu : s.useq ≠ .uIdle) : request la lb s = .refused .requestWhileUpdating := if_neg hu

/-- With a channel active the action case of an adjustment is a request, so a repeat is refused with it (R64, R65, R79). -/
theorem repeatAdjust_busy (l : Level) (hu : s.useq ≠ .uIdle) (hc : s.channel ≠ .chNone) :
    repeatAdjust l s = .refused .requestWhileUpdating := by
  have hact : action ((s.setLevel l).setButton .bAdjust) = .refused .requestWhileUpdating := by
    rw [action_eq_exec, State.setButton_channel, State.setLevel_channel]
    cases hch : s.channel with
    | chNone => exact absurd hch hc
    | chWarm | chCool | chBoth => exact request_busy _ _ hu
  rw [repeatAdjust, hact, andThen_refused]

theorem edge_completes (hadm : byteRst v = true ∨ byteTick v = false ∨ s.useq = .uIdle) :
    ∃ t, applyStimulus (.edge v) s = .next t := by
  cases hr : byteRst v with
  | true =>
    rw [edge_rst hr]
    exact ⟨_, rfl⟩
  | false =>
    cases ht : byteTick v with
    | true =>
      have hu : s.useq = .uIdle := by simpa [hr, ht] using hadm
      rw [edge_tick hr ht]
      exact tick_completes _ (by simpa using hu)
    | false =>
      rw [edge_upd hr ht]
      exact updAgent_completes _

/-- An admissible stimulus has a next state. -/
theorem applyStimulus_completes (h : Admissible x s) : ∃ t, applyStimulus x s = .next t := by
  cases x with
  | reset => exact ⟨_, rfl⟩
  | tick q => exact tick_completes q h
  | uop =>
    rw [applyStimulus_uop_busy h]
    exact updAgent_completes s
  | ovf => exact ⟨_, applyStimulus_ovf s⟩
  | edge v => exact edge_completes h

/-- Any other stimulus is refused, for one of two reasons. -/
theorem applyStimulus_refused (h : ¬ Admissible x s) :
    applyStimulus x s = .refused .tickWhileUpdating ∧ x ≠ .uop ∨ applyStimulus x s = .refused .uopNotAllowed ∧ x = .uop := by
  cases x with
  | reset | ovf => exact absurd trivial h
  | tick q => exact .inl ⟨tick_busy q h, nofun⟩
  | uop => exact .inr ⟨if_pos (not_not.1 h), rfl⟩
  | edge v =>
    obtain ⟨hr, ht, hu⟩ : byteRst v = false ∧ byteTick v = true ∧ s.useq ≠ .uIdle := by simpa [Admissible] using h
    exact .inl ⟨edge_tick_busy hr ht hu, nofun⟩

end Sys2Proof.Machine
end

section
/-!
SUPPORT. The micro-operations of one request on clock edges without tick and reset (R107).
-/

namespace Sys2Proof.Machine

variable {s : State} {v : BitVec 8}

/-- U_CLR may find the flag up, so an overflow at the same edge, which is ordered first, may still commit (R92 (3)). -/
theorem edge_clr (hr : byteRst v = false) (ht : byteTick v = false) (hu : s.useq = .uClr) :
    applyStimulus (.edge v) s = .next (((s.overflowed (byteOvf v)).setSyncEn false).setUseq .uWra) := by
  rw [edge_upd hr ht, updAgent_eq, overflowed_useq, hu]
  rfl

/-- With the flag down the edge is the sequencer's step, whatever `pwm_ovf` is. -/
theorem edge_flag_down (hr : byteRst v = false) (ht : byteTick v = false) (hen : s.sync_en = false) :
    applyStimulus (.edge v) s = exec s.useq.op s := by
  rw [edge_upd hr ht, overflowed_of_flag_down _ hen, updAgent_eq]

theorem edge_wra (hr : byteRst v = false) (ht : byteTick v = false) (hen : s.sync_en = false) (hu : s.useq = .uWra) :
    applyStimulus (.edge v) s = .next ((s.setShadowA s.targetA).setUseq .uWrb) := by
  rw [edge_flag_down hr ht hen, hu]
  rfl

theorem edge_wrb (hr : byteRst v = false) (ht : byteTick v = false) (hen : s.sync_en = false) (hu : s.useq = .uWrb) :
    applyStimulus (.edge v) s = .next ((s.setShadowB s.targetB).setUseq .uSet) := by
  rw [edge_flag_down hr ht hen, hu]
  rfl

theorem edge_set (hr : byteRst v = false) (ht : byteTick v = false) (hen : s.sync_en = false) (hu : s.useq = .uSet) :
    applyStimulus (.edge v) s = .next ((s.setSyncEn true).setUseq .uIdle) := by
  rw [edge_flag_down hr ht hen, hu]
  rfl

/-- With the sequencer idle again and the flag up, an overflow commits the shadow pair (R85). -/
theorem edge_commit (hr : byteRst v = false) (ht : byteTick v = false) (ho : byteOvf v = true) (hen : s.sync_en = true)
    (hu : s.useq = .uIdle) : applyStimulus (.edge v) s = .next (s.setLive s.shadow_a s.shadow_b) := by
  rw [edge_upd hr ht, updAgent_idle (by simpa using hu), State.overflowed, ho, hen]
  rfl

/-- Edges 2 to 4 of a request: they find the flag down, write the shadow pair and raise the flag, and leave the live pair alone. -/
theorem edges_write_shadows {v₂ v₃ v₄ : BitVec 8} (hv₂ : byteRst v₂ = false ∧ byteTick v₂ = false)
    (hv₃ : byteRst v₃ = false ∧ byteTick v₃ = false) (hv₄ : byteRst v₄ = false ∧ byteTick v₄ = false) (hen : s.sync_en = false)
    (hu : s.useq = .uWra) :
    ∃ t₂ t₃, applyStimulus (.edge v₂) s = .next t₂ ∧ t₂.useq = .uWrb ∧ t₂.shadow_a = LUT_A s.req_la ∧
      applyStimulus (.edge v₃) t₂ = .next t₃ ∧ t₃.useq = .uSet ∧ t₃.shadow_b = LUT_B s.req_lb ∧
      applyStimulus (.edge v₄) t₃ = .next (s.updated (s.live_a, s.live_b)) := by
  refine ⟨_, _, edge_wra hv₂.1 hv₂.2 hen hu, rfl, rfl, edge_wrb hv₃.1 hv₃.2 hen rfl, rfl, rfl,
    (edge_set hv₄.1 hv₄.2 (by simpa using hen) (by simp)).trans (congrArg Host.Outcome.next ?_)⟩
  apply State.ext <;> simp [State.updated, State.targetA, State.targetB, LUT_A, LUT_B]

end Sys2Proof.Machine
end

section
/-!
PROOFS. The obligations about resets and hazards on the level of steps and clock edges.
-/

namespace Sys2Proof.Proofs

open Sys2Proof.Machine Sys2Proof.Safety

/-- Settles O46: taking the stimulus changes neither flag nor shadow pair, and every stimulus keeps the invariant. -/
theorem shadowsAreWrittenOnlyWhileTheFlagIsDown : Obligations.ShadowsAreWrittenOnlyWhileTheFlagIsDown := by
  unfold Obligations.ShadowsAreWrittenOnlyWhileTheFlagIsDown
  intro s t hs h
  have htaken : FlagInv s.takeStimulus := hs.of_eq (takeStimulus_sync_en s) (takeStimulus_useq s)
  obtain ⟨-, ⟨ha, hb⟩, -⟩ := pwmRegisters_eq_iff.1 (takeStimulus_pwmRegisters s)
  obtain ⟨ht, hkeep⟩ := htaken.applyStimulus h
  rw [takeStimulus_sync_en, ha, hb] at hkeep
  refine ⟨ht, fun hne => ?_⟩
  cases hen : s.sync_en with
  | false => exact .inl rfl
  | true =>
    rcases hkeep hen with ⟨hka, hkb⟩ | hreset
    · exact (hne.elim (· hka) (· hkb)).elim
    · exact .inr hreset

/-- Settles O39: the transition functions test `useq` first, and so does BSET, which each listed case and each repeat issues. -/
theorem ticksWhileUpdatingAreRefused : Obligations.TicksWhileUpdatingAreRefused := by
  unfold Obligations.TicksWhileUpdatingAreRefused
  refine fun s hu => ⟨fun i hf => transition_busy hf hu, fun q => tick_busy q hu, fun v hr ht => edge_tick_busy hr ht hu, ?requests,
    fun hc => ⟨repeatAdjust_busy _ hu hc, repeatAdjust_busy _ hu hc⟩⟩
  case requests =>
    have refused := fun la lb => request_busy la lb hu
    have refused_off := fun la lb => request_busy (s := s.setIndicator false) la lb hu
    simp only [List.forall_mem_cons]
    exact ⟨refused _ _, refused_off _ _, refused _ _, refused _ _, refused _ _, refused _ _, refused _ _, nofun⟩

/-- Settles O40: admissible stimuli complete, the others are refused. -/
theorem exactlyTheAdmissibleStimuliHaveANextState : Obligations.ExactlyTheAdmissibleStimuliHaveANextState := by
  unfold Obligations.ExactlyTheAdmissibleStimuliHaveANextState
  refine fun x s => ⟨⟨fun ⟨t, ht⟩ => ?_, applyStimulus_completes⟩, applyStimulus_refused⟩
  by_contra hno
  rcases applyStimulus_refused hno with ⟨hr, -⟩ | ⟨hr, -⟩ <;> rw [hr] at ht <;> cases ht

/-- Settles O42: the tick leaves flag, shadow and live registers alone; U_CLR takes the flag down for the edges up to U_SET, so of the
overflows only those at edges 1 and 5 can commit. -/
theorem requestTakesFourEdges : Obligations.RequestTakesFourEdges := by
  unfold Obligations.RequestTakesFourEdges
  intro s t₀ q v₁ v₂ v₃ v₄ v₅ htick hclr hv hovf
  simp only [List.forall_mem_cons] at hv
  obtain ⟨⟨hr₁, ht₁⟩, hv₂, hv₃, hv₄, ⟨hr₅, ht₅⟩, -⟩ := hv
  obtain ⟨hen, ⟨hsa, hsb⟩, hla, hlb⟩ := pwmRegisters_eq_iff.1 (tick_keeps_pwmRegisters htick)
  rw [← hen, ← hsa, ← hsb, ← hla, ← hlb]
  have h₁ := edge_clr hr₁ ht₁ hclr
  obtain ⟨t₂, t₃, h₂, hu₂, ha, h₃, hu₃, hb, h₄⟩ :=
    edges_write_shadows (s := ((t₀.overflowed (byteOvf v₁)).setSyncEn false).setUseq .uWra) hv₂ hv₃ hv₄ rfl rfl
  exact ⟨_, t₂, t₃, _, _, h₁, rfl, rfl, overflowed_live _ t₀, h₂, hu₂, ha, h₃, hu₃, hb, h₄, rfl, rfl, rfl, rfl,
    edge_commit hr₅ ht₅ hovf rfl rfl, rfl, rfl⟩

/-- Settles O8: RESET writes R28's values over every register, and `rst` is tested first. -/
theorem resetLoadsTheResetValues : Obligations.ResetLoadsTheResetValues := by
  unfold Obligations.ResetLoadsTheResetValues
  intro s
  refine ⟨⟨_, rfl, ?values⟩, fun v hr => (edge_rst hr).trans (resetAgent_eq s)⟩
  case values => exact resetStateHoldsTheResetValues

end Sys2Proof.Proofs
end

section
/-!
SUPPORT. Ticks with their DRAIN (R52), and the debounce as a run of them (R108): from `Idle` the first pressed tick starts the count,
each further one adds 1 to it, a release ends it and the tick that finds 10 commits.
-/

namespace Sys2Proof.Machine

variable {n : Nat} {q r : Pressed} {qs : List Pressed} {s t : State}

/-- A tick that issues no request needs no UOP. -/
theorem tickDrain_of_idle (h : applyStimulus (.tick q) s = .next t) (hu : t.useq = .uIdle) : tickDrain q s = .next t := by
  rw [tickDrain, h, andThen_next, drain_idle hu]

theorem ticks_cons (h : tickDrain q s = .next t) : ticks (q :: qs) s = ticks qs t := by
  rw [ticks, h, andThen_next]

@[simp] theorem ticks_one (q : Pressed) (s : State) : ticks [q] s = tickDrain q s := by
  rw [ticks]
  cases tickDrain q s <;> rfl

/-- The state in `Debouncing` with a count, the latest tick having sampled a mask. -/
def State.counting (n : Nat) (q : Pressed) (s : State) : State :=
  { s with state := .debouncing, db_cnt := BitVec.ofNat 4 n, p := q }

/-- A count up to T_DEBOUNCE's threshold fits its register (R20). -/
theorem counting_db_cnt (hn : n ≤ 10) : (s.counting n q).db_cnt.toNat = n := by
  rw [State.counting, BitVec.toNat_ofNat]
  omega

/-- R55. -/
theorem tickDrain_starts_count (hst : s.state = .idle) (hu : s.useq = .uIdle) (hq : q ≠ 0) :
    tickDrain q s = .next (s.counting 0 q) := by
  obtain ⟨hstart, -⟩ := Proofs.idleTickStartsADebounce (s.samplePort q) hu
  refine tickDrain_of_idle ?_ hu
  rw [applyStimulus_tick, hst]
  exact hstart hq

/-- R56 in `Debouncing`, the tick's mask and the count deciding. -/
theorem tickDrain_counting (hu : s.useq = .uIdle) (hn : n ≤ 10) :
    tickDrain q (s.counting n r) = .next
      (if q = 0 then { s with state := .idle, db_cnt := 0, p := 0 }
      else if n = 10 then { s with state := .buttonPressed, indicator := true, db_cnt := 0, p := q }
      else s.counting (n + 1) q) := by
  obtain ⟨hrelease, hcommit, hcount⟩ := Proofs.debounceTickReleasesCommitsOrCounts ((s.counting n r).samplePort q) hu
  rw [State.samplePort_db_cnt, counting_db_cnt hn] at hcommit hcount
  refine tickDrain_of_idle ?tick ?idle
  case idle => split_ifs <;> exact hu
  case tick =>
    rw [applyStimulus_tick]
    split_ifs with hq hten
    · subst hq
      exact hrelease rfl
    · exact hcommit hq (by omega)
    · exact hcount hq (by omega)

theorem ticks_counting (hu : s.useq = .uIdle) (hqs : ∀ q ∈ qs, q ≠ 0) (hn : n + qs.length ≤ 10) :
    ticks qs (s.counting n r) = .next (s.counting (n + qs.length) (qs.getLastD r)) := by
  induction qs generalizing n r with
  | nil => rfl
  | cons q qs ih =>
    rw [List.length_cons] at hn ⊢
    obtain ⟨hq, hqs⟩ := List.forall_mem_cons.1 hqs
    have hstep := tickDrain_counting (q := q) (r := r) hu (n := n) (by omega)
    rw [if_neg hq, if_neg (by omega)] at hstep
    rw [ticks_cons hstep, ih hqs (by omega), List.getLastD_cons, Nat.add_right_comm, Nat.add_assoc]

/-- One to eleven pressed ticks from `Idle`: the first starts the count, each of the others adds 1. -/
theorem ticks_debouncing (hst : s.state = .idle) (hu : s.useq = .uIdle) (hqs : ∀ q ∈ qs, q ≠ 0) (hpos : 1 ≤ qs.length)
    (hlen : qs.length ≤ 11) : ticks qs s = .next (s.counting (qs.length - 1) (qs.getLastD 0)) := by
  cases qs with
  | nil => simp at hpos
  | cons q qs =>
    rw [List.length_cons] at hlen
    obtain ⟨hq, hqs⟩ := List.forall_mem_cons.1 hqs
    rw [ticks_cons (tickDrain_starts_count hst hu hq), ticks_counting hu hqs (by omega), List.getLastD_cons, Nat.zero_add,
      List.length_cons, Nat.add_sub_cancel]

end Sys2Proof.Machine
end

section
/-!
PROOFS. The obligation about the debounce.
-/

namespace Sys2Proof.Proofs

open Sys2Proof.Machine

/-- Settles O23: up to eleven pressed ticks count, the count of eleven ticks is 10, and the tick that finds 10 commits. -/
theorem debounceNeedsTwelvePressedTicks : Obligations.DebounceNeedsTwelvePressedTicks := by
  unfold Obligations.DebounceNeedsTwelvePressedTicks
  refine fun s ps hst hu hps => ⟨fun hpos hlen => ?upToEleven, fun hlen => ?twelve⟩
  case upToEleven =>
    have hcount := ticks_debouncing hst hu hps hpos hlen
    refine ⟨hcount, ?_⟩
    rw [ticks_append, hcount, andThen_next, ticks_one, tickDrain_counting hu (by omega), if_pos rfl]
  case twelve =>
    obtain ⟨qs, q, rfl⟩ : ∃ qs q, ps = qs ++ [q] := by
      rcases List.eq_nil_or_concat' ps with rfl | h
      · simp at hlen
      · exact h
    obtain ⟨hqs, hq⟩ := List.forall_mem_append.1 hps
    have heleven : qs.length = 11 := by simpa using hlen
    rw [ticks_append, ticks_debouncing hst hu hqs (by omega) (by omega), andThen_next, ticks_one,
      tickDrain_counting hu (by omega), if_neg (hq q (by simp)), if_pos (by omega), List.getLastD_concat]

end Sys2Proof.Proofs
end

section
/-!
SUPPORT. The typematic repeat as a run of ticks with their DRAIN (R109): what the counters hold after `n` held ticks, and which of the
ticks repeat.
-/

namespace Sys2Proof.Machine

open Sys2Proof.Safety

variable {f : Level → Level} {l : Level} {n : Nat} {q : Pressed} {qs : List Pressed} {s t : State}

/-- What the rate counter holds after `n` held ticks: it saturates until the first repeat, and counts from 0 after each (R63 to
R65). -/
def rateAfter (n : Nat) : Nat := if n < 350 then min 15 n else (n - 350) % 15

/-- The next held tick repeats: it is the 350th, or a multiple of 15 ticks after it. -/
def RepeatsNext (n : Nat) : Prop := 349 ≤ n ∧ 14 ≤ rateAfter n

theorem repeatsAfter_succ_of_repeat (h : RepeatsNext n) : repeatsAfter (n + 1) = repeatsAfter n + 1 ∧ rateAfter (n + 1) = 0 := by
  simp only [RepeatsNext, rateAfter, repeatsAfter] at h ⊢
  split_ifs at h ⊢ <;> omega

theorem repeatsAfter_succ_of_count (h : ¬ RepeatsNext n) :
    repeatsAfter (n + 1) = repeatsAfter n ∧ rateAfter (n + 1) = min 15 (rateAfter n + 1) := by
  simp only [RepeatsNext, rateAfter, repeatsAfter] at h ⊢
  split_ifs at h ⊢ <;> omega

/-- A mask under which a due repeat changes the level by `f`: button 3 increases, button 4 without button 3 decreases (R63). -/
def Adjusts (f : Level → Level) (q : Pressed) : Prop :=
  f = satInc ∧ q.getLsbD 3 = true ∨ f = floorDec ∧ q.getLsbD 3 = false ∧ q.getLsbD 4 = true

theorem Adjusts.ne_zero (hq : Adjusts f q) : q ≠ 0 := by
  rintro rfl
  simp [Adjusts] at hq

/-- A due repeat under such a mask. -/
theorem Adjusts.tHeld_due (hq : Adjusts f s.p) (hu : s.useq = .uIdle) (hdue : s.repeatDue = true) :
    exec .tHeld s = repeatAdjust (f s.level) (countHeld s) := by
  rcases hq with ⟨rfl, h3⟩ | ⟨rfl, h3, h4⟩
  · exact tHeld_inc hu h3 hdue
  · exact tHeld_dec hu h3 h4 hdue

/-- The state after `n` held ticks under such masks, from entry to `ButtonHeld` with level `l` and a channel active. -/
structure HeldFor (f : Level → Level) (l : Level) (n : Nat) (s : State) : Prop where
  held   : s.state = .buttonHeld
  idle   : s.useq = .uIdle
  active : s.channel ≠ .chNone
  delay  : s.hold_delay.toNat = min 350 n
  rate   : s.hold_rate.toNat = rateAfter n
  level  : s.level = f^[repeatsAfter n] l

theorem HeldFor.repeatDue_iff (hs : HeldFor f l n s) : s.repeatDue = true ↔ RepeatsNext n := by
  rw [Machine.repeatDue_iff, hs.delay, hs.rate, RepeatsNext]
  have hactive := hs.active
  simp only [ne_eq, hactive, not_false_eq_true, and_true]
  omega

theorem HeldFor.nextHoldDelay (hs : HeldFor f l n s) : (countHeld s).hold_delay.toNat = min 350 (n + 1) := by
  refine (nextHoldDelay_fits s).trans ?_
  rw [Machine.nextHoldDelay, HOLD_DELAY, hs.delay]
  omega

theorem HeldFor.nextHoldRate (hs : HeldFor f l n s) : (countHeld s).hold_rate.toNat = min 15 (rateAfter n + 1) := by
  refine (nextHoldRate_fits s).trans ?_
  rw [Machine.nextHoldRate, HOLD_RATE, hs.rate]

/-- Sampling a mask touches none of these registers. -/
theorem HeldFor.samplePort (hs : HeldFor f l n s) (q : Pressed) : HeldFor f l n (s.samplePort q) :=
  ⟨hs.held, hs.idle, hs.active, hs.delay, hs.rate, hs.level⟩

/-- The DRAIN of a request ends with the sequencer idle and touches none of the others. -/
theorem drain_request_keeps (hu : s.useq = .uClr) :
    ∃ t, drain s = .next t ∧ t.useq = .uIdle ∧ t.state = s.state ∧ t.channel = s.channel ∧ t.hold_delay = s.hold_delay ∧
      t.hold_rate = s.hold_rate ∧ t.level = s.level :=
  ⟨_, drain_request hu, by simp⟩

/-- A tick that repeats changes the level once, requests, and clears the rate counter; its DRAIN ends with the sequencer idle. -/
theorem HeldFor.repeated (hs : HeldFor f l n s) (hq : Adjusts f s.p) (hn : RepeatsNext n) :
    ∃ t, andThen (exec .tHeld s) drain = .next t ∧ HeldFor f l (n + 1) t := by
  obtain ⟨hcount, hrate⟩ := repeatsAfter_succ_of_repeat hn
  obtain ⟨m, -, hm⟩ := repeatAdjust_completes (s := countHeld s) hs.idle (f s.level)
  obtain ⟨-, la, lb, ht⟩ := repeatAdjust_shape hm hs.active
  rw [hq.tHeld_due hs.idle (hs.repeatDue_iff.2 hn), hm, andThen_next, ht]
  obtain ⟨t, hdrain, hidle, hst, hch, hd, hr, hl⟩ :=
    drain_request_keeps (s := ((((countHeld s).setLevel (f s.level)).setButton .bAdjust).latchRequest la lb).setHoldRate 0) rfl
  refine ⟨t, hdrain, ⟨hst.trans hs.held, hidle, ?active, ?delay, ?rate, ?level⟩⟩
  case active => rw [hch]; exact hs.active
  case delay => rw [hd]; exact hs.nextHoldDelay
  case rate => rw [hr, hrate]; rfl
  case level => rw [hl, hcount, Function.iterate_succ_apply', ← hs.level]; rfl

/-- A tick that does not repeat only counts. -/
theorem HeldFor.counted (hs : HeldFor f l n s) (hq : Adjusts f s.p) (hn : ¬ RepeatsNext n) :
    ∃ t, andThen (exec .tHeld s) drain = .next t ∧ HeldFor f l (n + 1) t := by
  obtain ⟨hcount, hrate⟩ := repeatsAfter_succ_of_count hn
  have hdue : s.repeatDue = false := by rw [← Bool.not_eq_true, hs.repeatDue_iff]; exact hn
  rw [tHeld_count hs.idle (noneDown_false_iff.2 hq.ne_zero) (.inl hdue), andThen_next]
  refine ⟨_, drain_idle hs.idle, ⟨hs.held, hs.idle, hs.active, hs.nextHoldDelay, hs.nextHoldRate.trans hrate.symm, ?_⟩⟩
  rw [hcount]
  exact hs.level

theorem HeldFor.tickDrain (hs : HeldFor f l n s) (hq : Adjusts f q) :
    ∃ t, tickDrain q s = .next t ∧ HeldFor f l (n + 1) t := by
  rw [Machine.tickDrain, applyStimulus_tick, hs.held]
  by_cases hn : RepeatsNext n
  · exact (hs.samplePort q).repeated hq hn
  · exact (hs.samplePort q).counted hq hn

theorem HeldFor.ticks (hs : HeldFor f l n s) (hqs : ∀ q ∈ qs, Adjusts f q) :
    ∃ t, ticks qs s = .next t ∧ HeldFor f l (n + qs.length) t := by
  induction qs generalizing n s with
  | nil => exact ⟨s, rfl, hs⟩
  | cons q qs ih =>
    obtain ⟨hq, hqs⟩ := List.forall_mem_cons.1 hqs
    obtain ⟨m, hm, hm'⟩ := hs.tickDrain hq
    obtain ⟨t, ht, ht'⟩ := ih hm' hqs
    exact ⟨t, (ticks_cons hm).trans ht, by rwa [List.length_cons, Nat.add_comm qs.length, ← Nat.add_assoc]⟩

/-- Entry to `ButtonHeld` with a channel active. -/
theorem heldFor_zero (f : Level → Level) (hst : s.state = .buttonHeld) (hu : s.useq = .uIdle) (hd : s.hold_delay = 0)
    (hr : s.hold_rate = 0) (hc : s.channel ≠ .chNone) : HeldFor f s.level 0 s :=
  ⟨hst, hu, hc, congrArg BitVec.toNat hd, congrArg BitVec.toNat hr, rfl⟩

end Sys2Proof.Machine
end

section
/-!
PROOFS. The obligation about the typematic repeat.
-/

namespace Sys2Proof.Proofs

open Sys2Proof.Machine

/-- Settles O24: the counters after `n` held ticks say which ticks repeat, and each repeat is one adjustment of the level. -/
theorem typematicRepeatsAt350AndEvery15 : Obligations.TypematicRepeatsAt350AndEvery15 := by
  unfold Obligations.TypematicRepeatsAt350AndEvery15
  intro s ps hst hu hd hr hc
  have hold {f : Level → Level} (hps : ∀ q ∈ ps, Adjusts f q) :
      ∃ t, ticks ps s = .next t ∧ t.state = .buttonHeld ∧ t.level = f^[Safety.repeatsAfter ps.length] s.level := by
    obtain ⟨t, ht, hheld⟩ := (heldFor_zero f hst hu hd hr hc).ticks hps
    exact ⟨t, ht, hheld.held, by simpa using hheld.level⟩
  exact ⟨fun hps => hold fun q hq => .inl ⟨rfl, hps q hq⟩, fun hps => hold fun q hq => .inr ⟨rfl, hps q hq⟩⟩

end Sys2Proof.Proofs
end

section
/-!
PROOFS. The obligation about the registers a reset leaves unspecified.
-/

namespace Sys2Proof.Proofs

open Sys2Proof.Machine

/-- Settles O9: RESET always completes and takes both free values at the current draw number (U2), then counts one draw. -/
theorem resetLeavesTheShadowsFree : Obligations.ResetLeavesTheShadowsFree := by
  unfold Obligations.ResetLeavesTheShadowsFree
  intro s
  refine ⟨_, rfl, rfl, rfl, ?draws⟩
  case draws => exact Nat.lt_succ_self s.draws

end Sys2Proof.Proofs
end
